-- ==== Sys2Proof/Word.lean ====
section
/-! DEFINITION. The widths the spec counts in: bytes, 32-bit window words, 64-bit limbs, and the two fixed-size arrays
every datapath register is made of (spec/00_scope.md R7, R9; spec/10_state.md R36 item 4). -/

namespace Sys2Proof

/-- An 8-bit byte (R9). -/
abbrev Byte := BitVec 8

/-- A 32-bit word of the register window (spec/20_memory.md R60). -/
abbrev Word := BitVec 32

/-- A 64-bit limb of `n` or `sigma` (R7: `LIMB_BITS` = 64). -/
abbrev Limb := BitVec 64

/-- A 64-byte array, byte 0 first (R7: `BLOCK_BYTES` = `STATE_BYTES` = 64). -/
abbrev Block := Vector Byte 64

/-- Eight limbs, limb 0 the least significant (R7: `LIMBS` = 8; R11). -/
abbrev Limbs := Vector Limb 8

/-- A word index of the window: 7 bits, 0 to 127 (R61). -/
abbrev WordIndex := BitVec 7

end Sys2Proof
end

