-- ==== Sys2Proof/Syntax.lean ====
section
/-! DEFINITION. The three commands (spec/30_encoding.md R91, spec/opcode_table.json): one constructor per row. -/

namespace Sys2Proof

/-- A command with its operand. Every other operand is implicit: the block is always `DIN`, the state operands are
always `h`, `n` and `sigma` (R93, spec/10_state.md R30). -/
inductive Instr where
  /-- INIT: open a session with digest size `size` in bytes (the `SIZE` field, "an unsigned byte count, 0 to 255"). -/
  | init (size : Nat)
  /-- UPDATE: compress the block in `DIN`. -/
  | update
  /-- FINALIZE: pad, compress and fold, with `pos` valid bytes in `DIN` (the `POS` field, 0 to 63). -/
  | finalize (pos : Nat)
deriving DecidableEq, Repr

end Sys2Proof
end

