-- ==== Sys2Proof/WellFormed.lean ====
section
/-! DEFINITION. Which terms of `Instr` a command word can encode (spec/30_encoding.md R93). A `SIZE` other than 32 and 64
is well-formed: it encodes, and the acceptance check rejects it (R94). -/

namespace Sys2Proof

/-- `SIZE` is 8 bits and `POS` is 6 bits (R90, R93). -/
def Instr.wellFormed : Instr → Bool
  | .init size => decide (size < 256)
  | .update => true
  | .finalize pos => decide (pos < 64)

end Sys2Proof
end

