-- ==== Sys2Proof/Decode.lean ====
section
/-! DEFINITION. The command decoder, total on every 32-bit word (spec/30_encoding.md R90 to R95), and the encoder (R96). -/

namespace Sys2Proof

/-- Why a word is ILLEGAL. Both reasons raise the same error, ILLEGAL_COMMAND (R92, spec/60_exceptions.md R253). -/
inductive Illegal where
  /-- `OP` is 0x0 or 0x4 to 0xF (R91). -/
  | reservedOp
  /-- `OP` selects a command and a bit outside that command's `ALLOWED` mask is set (R92). -/
  | reservedBits
deriving DecidableEq, Repr

/-- What a word decodes to: a command, or `ILLEGAL` (R94). -/
inductive Decoded where
  | command (i : Instr)
  | illegal (why : Illegal)
deriving DecidableEq, Repr

/-- The bits an INIT word may set (R92). -/
def allowedInit : Word := 0x0000FF0F#32

/-- The bits an UPDATE word may set (R92). -/
def allowedUpdate : Word := 0x0000000F#32

/-- The bits a FINALIZE word may set (R92). -/
def allowedFinalize : Word := 0x003F000F#32

/-- `OP`, bits [3:0] (R90). -/
def opField (w : Word) : BitVec 4 := w.extractLsb' 0 4

/-- `SIZE = zext_8(word[15:8])` (R93). -/
def sizeField (w : Word) : Nat := (w.extractLsb' 8 8).toNat

/-- `POS = zext_8(word[21:16])` (R93). -/
def posField (w : Word) : Nat := (w.extractLsb' 16 6).toNat

/-- `decode` of R94. -/
def decode (w : Word) : Decoded :=
  if opField w = 0x1#4 then
    if w &&& ~~~allowedInit = 0#32 then .command (.init (sizeField w)) else .illegal .reservedBits
  else if opField w = 0x2#4 then
    if w &&& ~~~allowedUpdate = 0#32 then .command .update else .illegal .reservedBits
  else if opField w = 0x3#4 then
    if w &&& ~~~allowedFinalize = 0#32 then .command (.finalize (posField w)) else .illegal .reservedBits
  else .illegal .reservedOp

/-- The command word of each command, as R96 writes them. -/
def encode : Instr → Word
  | .init size => 0x00000001#32 ||| (BitVec.ofNat 32 size <<< 8)
  | .update => 0x00000002#32
  | .finalize pos => 0x00000003#32 ||| (BitVec.ofNat 32 pos <<< 16)

/-- The word whose low `nbits` bits are those of `w`, every other bit 0 (every command is exactly 32 bits, R90). -/
def tableWord (nbits w : Nat) : Word := BitVec.ofNat 32 (w % 2 ^ nbits)

/-- The instruction the decoder reads from a row's word; none where it answers ILLEGAL. -/
def decodeTableWord (nbits w : Nat) : Option Instr :=
  match decode (tableWord nbits w) with
  | .command i => some i
  | .illegal _ => none

end Sys2Proof
end

