-- ==== Sys2Proof/Config.lean ====
section
/-! DEFINITION. What the spec leaves free. Nothing in Lean can evaluate the opaque constant, so a theorem holds for every value of
it. The constant tables are an argument (`Tables`); the default values the spec gives for them are `standardTables` in
Machine/Tables.lean. `BASE` and `NUM_ENGINES` are data of a `Platform` (Machine/Platform.lean), and the latencies are numbers of
turns (log entry 9). -/

namespace Sys2Proof

/-- `ANY32` of spec/20_memory.md R66: "an unspecified 32-bit value that can differ from read to read". The argument is
the number of the draw (`State.draws`), so each read of an engine has a free value of its own. DESIGN CHOICE (log entry 4): the
constant is one for every engine and every run, so draws with the same number agree: of two runs, and of two engines side by
side on a platform, each of which counts its own draws. The spec relates no two such reads (spec/93 U1). -/
opaque Config.any32 : Nat → Word

/-- The constant tables an engine is built with: the open parameters `LPS_TABLE` and `C` of spec/00_scope.md R8, which a model takes
as an argument (spec/92 D19). They are read-only, no access reaches them and no reset changes them (spec/10_state.md R33), so they
stand beside State and not in it. -/
structure Tables where
  /-- `T[j][b]`, an entry of `LPS_TABLE`: eight sub-tables, read at `j` = 0 to 7, of 256 words of 64 bits (R7 `TABLE_SHAPE`). -/
  T : Nat → Byte → Limb
  /-- `C[i]`, the round constants, read at `i` = 0 to 11. -/
  C : Nat → Block

end Sys2Proof
end

