-- ==== Sys2Proof/Machine/State.lean ====
section
/-! DEFINITION. The state of one engine (spec/10_state.md R20 to R38) with its port and the host that drives it. -/

namespace Sys2Proof.Machine

/-- `STATE` (R25). The fourth value of the 2-bit field is never held (spec/93 U10, log entry 11). -/
inductive Lifecycle where
  | uninit
  | streaming
  | finalized
deriving DecidableEq, Repr

/-- The four errors of spec/60_exceptions.md R250, codes 1 to 4. Code 0, NONE, is `none` of `Option Error`; codes 5 to 15
are never recorded (log entry 11). -/
inductive Error where
  | invalidOutputSize
  | illegalState
  | illegalCommand
  | busyViolation
deriving DecidableEq, Repr

/-- Which `g` call of a command runs (spec/41_compression_g.md R163): the one of `compress`, FINALIZE step 4 or 5. -/
inductive GCall where
  | block
  | foldN
  | foldSigma
deriving DecidableEq, Repr

/-- The stage of a running command (R32): within a `g` call its seed LPS, its rounds or its feed-forward; the two
accumulator updates; or nothing left to work out. The grain is the model's (log entry 7). -/
inductive Stage where
  | seed (c : GCall)
  | round (c : GCall)
  | feed (c : GCall)
  | addN
  | addSigma
  | done
deriving DecidableEq, Repr

/-- The working state of a running command (R32), which no program can observe: the command (R201 "start c"), its stage and
round index, the `key` and `data` registers of `g`, the block it compresses (`PB` for FINALIZE, R206), and the values of
`h`, `n` and `sigma` it has worked out so far, none of them committed before completion (R208, log entry 7). -/
structure Work where
  cmd   : Instr
  stage : Stage
  round : Fin 12
  key   : Block
  data  : Block
  pb    : Block
  h     : Block
  n     : Limbs
  sigma : Limbs
deriving DecidableEq, Repr

/-- One operation of a host program: `wr`, `rd` (spec/30_encoding.md R96) or the polling loop `WAIT` (R97). -/
inductive HostOp where
  | write (widx : WordIndex) (v : Word)
  | read (widx : WordIndex)
  | wait
deriving DecidableEq, Repr

/-- Who moves next (spec/20_memory.md R69): the host with its next operation, the engine completing its command (R208), the
engine working on inside its command (R32), or the reset input going to a level (spec/70_reset_and_hazards.md R280). -/
inductive Turn where
  | host
  | complete
  | work
  | reset (level : Bool)
deriving DecidableEq, Repr

/-- A recorded error read as a fault of the run, as spec/60_exceptions.md R265 and spec/93 U2 to U6 advise. The machine
itself goes on after an error, so `step` answers none of these: only `Safety.strictStep` does, which stops where the
hardware goes on (safe; log entry 6). -/
inductive Fault where
  /-- Raised by `strictStep` after a step that leaves `ERRCODE` = INVALID_OUTPUT_SIZE recorded (R251). Safe. -/
  | invalidOutputSize
  /-- Raised by `strictStep` after a step that leaves `ERRCODE` = ILLEGAL_STATE recorded (R252). Safe. -/
  | illegalState
  /-- Raised by `strictStep` after a step that leaves `ERRCODE` = ILLEGAL_COMMAND recorded (R253). Safe. -/
  | illegalCommand
  /-- Raised by `strictStep` after a step that leaves `ERRCODE` = BUSY_VIOLATION recorded (R254). Safe. -/
  | busyViolation
deriving DecidableEq, Repr

/-- Why an access or an instruction has no meaning. `step` of one engine answers none of these. -/
inductive Refusal where
  /-- An instruction with no meaning yet, by its mnemonic. No arm of `exec` raises it. Safe. -/
  | notModelled (mnemonic : String)
  /-- Raised by `Platform.access` for an access that is not one whole 32-bit word: the port cannot express it (spec/20_memory.md R64,
  spec/93 U7). Safe. -/
  | notAWord
  /-- Raised by `Platform.access` for an address that is not a multiple of 4: no word index names it (R61, R64). Safe. -/
  | notAligned
  /-- Raised by `Platform.access` for an address in no engine's window (R60): what lies there is not this hardware's. Safe. -/
  | outsideWindows
  /-- Raised by `Platform.stepAt` for an engine number the platform does not hold (spec/00_scope.md R8 `NUM_ENGINES`). Safe. -/
  | noSuchEngine
deriving DecidableEq, Repr

/-- The state of one engine: the ten registers of R20, the hidden working state of R32 (`none` when no command runs), the
port's reset input and read data (spec/92 D2), and the model's own account of the host (`ops`), of who moves next (`turns`)
and of the free values drawn (`draws`). -/
structure State where
  /-- `h`, the chaining value (R21). -/
  h       : Block
  /-- `n`, the bit counter (R22). -/
  n       : Limbs
  /-- `sigma`, the checksum (R23). -/
  sigma   : Limbs
  /-- `OUTSIZE`, the digest size of the session in bytes (R24). -/
  outsize : BitVec 8
  /-- `STATE`, the lifecycle state (R25). -/
  life    : Lifecycle
  /-- `BUSY` (R26). -/
  busy    : Bool
  /-- `ERR` (R27). -/
  err     : Bool
  /-- `ERRCODE`, with `none` for NONE (R27, R250). -/
  errcode : Option Error
  /-- `DIN`, the input buffer (R28). -/
  din     : Block
  /-- `DOUT`, the result buffer (R29). -/
  dout    : Block
  /-- The working state of the running command (R32); `none` when no command runs. -/
  work    : Option Work
  /-- The level of the reset input `rst` (R280, D2). -/
  rst     : Bool
  /-- `rdata`, the data of the host's last read (R61, D2; log entry 3). -/
  rdata   : Word
  /-- The host's operations still to come, in the order the port delivers them (R69; log entry 1). -/
  ops     : List HostOp
  /-- Who moves in the next steps; when the list is empty, the fair order of log entry 2. -/
  turns   : List Turn
  /-- How many free values have been drawn (log entry 4). -/
  draws   : Nat
deriving DecidableEq, Repr

/-- The machine right after reset: R38, with the reset input released and nothing pending (log entries 1 to 5). -/
def State.reset : State where
  h       := Vector.replicate 64 0x00#8
  n       := Vector.replicate 8 0#64
  sigma   := Vector.replicate 8 0#64
  outsize := 0#8
  life    := .uninit
  busy    := false
  err     := false
  errcode := none
  din     := Vector.replicate 64 0x00#8
  dout    := Vector.replicate 64 0x00#8
  work    := none
  rst     := false
  rdata   := 0#32
  ops     := []
  turns   := []
  draws   := 0

end Sys2Proof.Machine
end

