-- ==== Sys2Proof/Machine/Flags.lean ====
section
/-! DEFINITION. The engine has no arithmetic flags (spec/42_adder.md R186). Its status bits are the fields of `STATUS`
(spec/10_state.md R35, spec/20_memory.md R66). -/

namespace Sys2Proof.Machine

/-- The `STATE` field (R25). -/
def lifeCode : Lifecycle → Word
  | .uninit => 0#32
  | .streaming => 1#32
  | .finalized => 2#32

/-- `ERRCODE` (spec/60_exceptions.md R250). -/
def errorCode : Option Error → Word
  | none => 0#32
  | some .invalidOutputSize => 1#32
  | some .illegalState => 2#32
  | some .illegalCommand => 3#32
  | some .busyViolation => 4#32

/-- A one-bit field. -/
def bitCode (b : Bool) : Word := if b then 1#32 else 0#32

/-- `STATE | BUSY << 2 | ERR << 3 | ERRCODE << 4 | OUTSIZE << 8`, bits [31:16] = 0 (R66). -/
@[irreducible] def statusWord (s : State) : Word :=
  lifeCode s.life ||| (bitCode s.busy <<< 2) ||| (bitCode s.err <<< 3) ||| (errorCode s.errcode <<< 4) |||
    (s.outsize.setWidth 32 <<< 8)

end Sys2Proof.Machine
end

