-- ==== Sys2Proof/Machine/Bytes.lean ====
section
/-! DEFINITION. Byte arrays, words and limbs (spec/00_scope.md R9 to R12, spec/20_memory.md R63, R75). -/

namespace Sys2Proof.Machine

/-- `ZERO64` (R12). -/
def zero64 : Block := Vector.replicate 64 0x00#8

/-- Byte `i` of an array, for `i` = 0 to 63. -/
def byteAt (x : Block) (i : Nat) : Byte := if h : i < 64 then x[i] else 0x00#8

/-- Limb `k`, for `k` = 0 to 7. -/
def limbAt (w : Limbs) (k : Nat) : Limb := if h : k < 8 then w[k] else 0#64

/-- The array written as 128 hexadecimal digits in memory order, byte 0 first (R10). -/
def hexBlock (v : Nat) : Block := Vector.ofFn fun i => BitVec.ofNat 8 (v >>> (8 * (63 - i.val)))

/-- `x xor y`, byte by byte (R9). -/
@[irreducible] def xorBlock (x y : Block) : Block := Vector.ofFn fun i => x[i] ^^^ y[i]

/-- The exclusive-or of `f 0` to `f (count - 1)`. -/
def xorTo (count : Nat) (f : Nat → Limb) : Limb :=
  match count with
  | 0 => 0#64
  | k + 1 => xorTo k f ^^^ f k

/-- The sum of `f 0` to `f (count - 1)` in 64 bits. -/
def sumTo (count : Nat) (f : Nat → Limb) : Limb :=
  match count with
  | 0 => 0#64
  | k + 1 => sumTo k f + f k

/-- `words(a)` (R11): limb `k` is the sum over `m` of `zext_64(a[8k+m]) << 8m`. -/
@[irreducible] def words (a : Block) : Limbs :=
  Vector.ofFn fun k => sumTo 8 fun m => (byteAt a (8 * k.val + m)).setWidth 64 <<< (8 * m)

/-- `bytes(w)` (R11): byte `8k+m` is `(w[k] >> 8m) & 0xFF`. -/
@[irreducible] def bytes (w : Limbs) : Block :=
  Vector.ofFn fun i => (limbAt w (i.val / 8) >>> (8 * (i.val % 8))).setWidth 8

/-- The integer made of limbs 0 to `count - 1`. -/
def intTo (count : Nat) (w : Limbs) : Nat :=
  match count with
  | 0 => 0
  | k + 1 => intTo k w + (limbAt w k).toNat * 2 ^ (64 * k)

/-- `int(w)` (R11), 0 to `2^512 - 1`. -/
def intOf (w : Limbs) : Nat := intTo 8 w

/-- Word `j` of an array's window, little-endian (R63). -/
@[irreducible] def wordOf (x : Block) (j : Nat) : Word :=
  (byteAt x (4 * j)).setWidth 32 ||| ((byteAt x (4 * j + 1)).setWidth 32 <<< 8) |||
    ((byteAt x (4 * j + 2)).setWidth 32 <<< 16) ||| ((byteAt x (4 * j + 3)).setWidth 32 <<< 24)

/-- The array with word `j` replaced: byte `4j+m` becomes `v[8m+7:8m]` (R65). -/
@[irreducible] def putWord (x : Block) (j : Nat) (v : Word) : Block :=
  Vector.ofFn fun i => if i.val / 4 = j then v.extractLsb' (8 * (i.val % 4)) 8 else x[i]

end Sys2Proof.Machine
end

