-- ==== Sys2Proof/Machine/Adder.lean ====
section
/-! DEFINITION. The 64-bit add with carry and the two 512-bit updates (spec/42_adder.md R180 to R184). -/

namespace Sys2Proof.Machine

/-- What `adc` leaves in its two registers. -/
structure AdcResult where
  limb  : Limb
  carry : Limb
deriving DecidableEq, Repr

/-- `adc(limb, addend, carry)` through a 128-bit intermediate (R180). -/
def adc (limb addend carry : Limb) : AdcResult :=
  let t : BitVec 128 := limb.setWidth 128 + addend.setWidth 128 + carry.setWidth 128
  { limb := t.extractLsb' 0 64, carry := t.extractLsb' 64 64 }

/-- The carry that enters limb `k` of a ripple addition: 0 into limb 0, and what `adc` leaves at limb `k` into limb `k + 1`
(R181, R182). -/
def carryInto (x y : Limbs) (k : Nat) : Limb :=
  match k with
  | 0 => 0#64
  | i + 1 => (adc (limbAt x i) (limbAt y i) (carryInto x y i)).carry

/-- The ripple of `adc` over limbs 0 to 7, least significant first; the last carry is discarded (R181, R182). -/
def rippleAdd (x y : Limbs) : Limbs :=
  Vector.ofFn fun k => (adc (limbAt x k.val) (limbAt y k.val) (carryInto x y k.val)).limb

/-- The addends of `update_n`: `zext_64(8 · len_bytes)` into limb 0 and 0 into the others (R181). -/
def bitCount (lenBytes : Nat) : Limbs :=
  Vector.ofFn fun k => if k.val = 0 then BitVec.ofNat 64 (8 * lenBytes) else 0#64

/-- `update_n(len_bytes)` (R181). -/
@[irreducible] def updateN (n : Limbs) (lenBytes : Nat) : Limbs := rippleAdd n (bitCount lenBytes)

/-- `update_sigma(block)` (R182). -/
@[irreducible] def updateSigma (sigma : Limbs) (block : Block) : Limbs := rippleAdd sigma (words block)

end Sys2Proof.Machine
end

