-- ==== Sys2Proof/Machine/Tables.lean ====
section
/-! DEFINITION. The default values the spec gives the constant tables (spec/40_lps.md R120, R122, R125, R128; spec/00_scope.md R8
`LPS_TABLE`, `C`), and the configuration `standardTables` made of them. The spec took the values from general knowledge
(spec/93 G1 to G6; log entry 8). -/

namespace Sys2Proof.Machine

/-- The table of R120: row `b[7:4]`, column `b[3:0]`. -/
def piRows : List (List Nat) :=
  [[0xFC, 0xEE, 0xDD, 0x11, 0xCF, 0x6E, 0x31, 0x16, 0xFB, 0xC4, 0xFA, 0xDA, 0x23, 0xC5, 0x04, 0x4D],
   [0xE9, 0x77, 0xF0, 0xDB, 0x93, 0x2E, 0x99, 0xBA, 0x17, 0x36, 0xF1, 0xBB, 0x14, 0xCD, 0x5F, 0xC1],
   [0xF9, 0x18, 0x65, 0x5A, 0xE2, 0x5C, 0xEF, 0x21, 0x81, 0x1C, 0x3C, 0x42, 0x8B, 0x01, 0x8E, 0x4F],
   [0x05, 0x84, 0x02, 0xAE, 0xE3, 0x6A, 0x8F, 0xA0, 0x06, 0x0B, 0xED, 0x98, 0x7F, 0xD4, 0xD3, 0x1F],
   [0xEB, 0x34, 0x2C, 0x51, 0xEA, 0xC8, 0x48, 0xAB, 0xF2, 0x2A, 0x68, 0xA2, 0xFD, 0x3A, 0xCE, 0xCC],
   [0xB5, 0x70, 0x0E, 0x56, 0x08, 0x0C, 0x76, 0x12, 0xBF, 0x72, 0x13, 0x47, 0x9C, 0xB7, 0x5D, 0x87],
   [0x15, 0xA1, 0x96, 0x29, 0x10, 0x7B, 0x9A, 0xC7, 0xF3, 0x91, 0x78, 0x6F, 0x9D, 0x9E, 0xB2, 0xB1],
   [0x32, 0x75, 0x19, 0x3D, 0xFF, 0x35, 0x8A, 0x7E, 0x6D, 0x54, 0xC6, 0x80, 0xC3, 0xBD, 0x0D, 0x57],
   [0xDF, 0xF5, 0x24, 0xA9, 0x3E, 0xA8, 0x43, 0xC9, 0xD7, 0x79, 0xD6, 0xF6, 0x7C, 0x22, 0xB9, 0x03],
   [0xE0, 0x0F, 0xEC, 0xDE, 0x7A, 0x94, 0xB0, 0xBC, 0xDC, 0xE8, 0x28, 0x50, 0x4E, 0x33, 0x0A, 0x4A],
   [0xA7, 0x97, 0x60, 0x73, 0x1E, 0x00, 0x62, 0x44, 0x1A, 0xB8, 0x38, 0x82, 0x64, 0x9F, 0x26, 0x41],
   [0xAD, 0x45, 0x46, 0x92, 0x27, 0x5E, 0x55, 0x2F, 0x8C, 0xA3, 0xA5, 0x7D, 0x69, 0xD5, 0x95, 0x3B],
   [0x07, 0x58, 0xB3, 0x40, 0x86, 0xAC, 0x1D, 0xF7, 0x30, 0x37, 0x6B, 0xE4, 0x88, 0xD9, 0xE7, 0x89],
   [0xE1, 0x1B, 0x83, 0x49, 0x4C, 0x3F, 0xF8, 0xFE, 0x8D, 0x53, 0xAA, 0x90, 0xCA, 0xD8, 0x85, 0x61],
   [0x20, 0x71, 0x67, 0xA4, 0x2D, 0x2B, 0x09, 0x5B, 0xCB, 0x9B, 0x25, 0xD0, 0xBE, 0xE5, 0x6C, 0x52],
   [0x59, 0xA6, 0x74, 0xD2, 0xE6, 0xF4, 0xB4, 0xC0, 0xD1, 0x66, 0xAF, 0xC2, 0x39, 0x4B, 0x63, 0xB6]]

/-- `PI[b]` (R120). -/
def pi (b : Byte) : Byte := BitVec.ofNat 8 ((piRows.getD (b.toNat / 16) []).getD (b.toNat % 16) 0)

/-- The table of R122, four constants a row. -/
def aRows : List (List Nat) :=
  [[0x8E20FAA72BA0B470, 0x47107DDD9B505A38, 0xAD08B0E0C3282D1C, 0xD8045870EF14980E],
   [0x6C022C38F90A4C07, 0x3601161CF205268D, 0x1B8E0B0E798C13C8, 0x83478B07B2468764],
   [0xA011D380818E8F40, 0x5086E740CE47C920, 0x2843FD2067ADEA10, 0x14AFF010BDD87508],
   [0x0AD97808D06CB404, 0x05E23C0468365A02, 0x8C711E02341B2D01, 0x46B60F011A83988E],
   [0x90DAB52A387AE76F, 0x486DD4151C3DFDB9, 0x24B86A840E90F0D2, 0x125C354207487869],
   [0x092E94218D243CBA, 0x8A174A9EC8121E5D, 0x4585254F64090FA0, 0xACCC9CA9328A8950],
   [0x9D4DF05D5F661451, 0xC0A878A0A1330AA6, 0x60543C50DE970553, 0x302A1E286FC58CA7],
   [0x18150F14B9EC46DD, 0x0C84890AD27623E0, 0x0642CA05693B9F70, 0x0321658CBA93C138],
   [0x86275DF09CE8AAA8, 0x439DA0784E745554, 0xAFC0503C273AA42A, 0xD960281E9D1D5215],
   [0xE230140FC0802984, 0x71180A8960409A42, 0xB60C05CA30204D21, 0x5B068C651810A89E],
   [0x456C34887A3805B9, 0xAC361A443D1C8CD2, 0x561B0D22900E4669, 0x2B838811480723BA],
   [0x9BCF4486248D9F5D, 0xC3E9224312C8C1A0, 0xEFFA11AF0964EE50, 0xF97D86D98A327728],
   [0xE4FA2054A80B329C, 0x727D102A548B194E, 0x39B008152ACB8227, 0x9258048415EB419D],
   [0x492C024284FBAEC0, 0xAA16012142F35760, 0x550B8E9E21F7A530, 0xA48B474F9EF5DC18],
   [0x70A6A56E2440598E, 0x3853DC371220A247, 0x1CA76E95091051AD, 0x0EDD37C48A08A6D8],
   [0x07E095624504536C, 0x8D70C431AC02A736, 0xC83862965601DD1B, 0x641C314B2B8EE083]]

/-- `A[i]` (R122), for `i` = 0 to 63. -/
def A (i : Nat) : Limb := BitVec.ofNat 64 ((aRows.getD (i / 4) []).getD (i % 4) 0)

/-- The table of R128, in memory order (byte 0 first). -/
def cRows : List Nat :=
  [0x0745a6f2596580dd234d74cc3674760515d360a4082a42a20169679291e07c4bfcc485758db84e7116d0452e43766a2f1f7c65c0812fcbebe9daca1eda5b08b1,
   0xb79bb121700479e656cdcbd71ba2dd55caa70adbc261b55c5899d6126b17b59a3101b5160f5ed561982b230a72eafef3d7b5700f469de34f1a2f9da98ab5a36f,
   0xb20aba0af5961e9931db7a8643f4b6c209db6260373ac9c1b19e3590e40fe2d37b7b29b11475eaf28b1f9c525f5ef10635843d6a28fc390ac72fce2bacdc74f5,
   0x2ed1e384bcbe0c22f137e893a1ea5334be0352933313b7d875d603ed822cd7a93f355e68ad1c729d7d3c5c337e858e48dde4715da0e148f9d26615e8b3df1fef,
   0x57fe6c7cfd581760f563eaa97ea2567a161a2723b700ffdfa3f53a254717cdbfbdff0f80d7359e354a1086161f1c157f6323a96c0c413f9a994747adac6bea4b,
   0x6e7d64467a4068fa354f903672c571bfb6c6bec2661ff20ab4b79a1cb7a6facfc68ef09ab49a7f186ca44251f9c4662dc039307a3bc3a46fd9d33a1daeae4fae,
   0x93d4143a4d568688f34a3ca24c45173504054a2883694706372c822dc5ab9209c9937a19333e47d3c987bfe6c7c69e39540924bffe86ac51ecc5aaee160ec7f4,
   0x1ee702bfd40d7fa4d9a8515935c2ac362fc4a5d12b8dd16990069b92cb2b89f49ac4db4d3b44b4891ede369c71f8b74e41416e0c02aae703a7c9934d425b1f9b,
   0xdb5a238351446172602a1fcb92dc380e549c07a69a8a2b7bb1ceb2db0b440a8084090de0b755d93c244289251b3a7d3ade5f16ecd89a4c949b223116545a8f37,
   0xed9c4598fbc7b474c3b63b15d1fa9836f452763b306c1e7a4b3369af0267e79f0361331b8ae1ff1fdb788aff1ce74189f3f3e4b248e52a38526f0580a6debeab,
   0x1b2df381cda4ca6b5dd86fc04a59a2de986e477d1dcdbaefcab948eaef711d8a79668414218001206107abebbb6bfad894fe5a63cdc60230fb89c8efd09ecd7b,
   0x20d71bf14a92bc48991bb2d9d517f4fa5228e188aaa41de786cc91189def805d9b9f2130d41220f8771ddfbc323ca4cd7ab14904b08013d2ba3116f167e78e37]

/-- `C[i]` (R128), for `i` = 0 to 11. -/
def C (i : Nat) : Block := hexBlock (cRows.getD i 0)

/-- `T[j][b]`, an entry of `LPS_TABLE` (R125). -/
def lpsTable (j : Nat) (b : Byte) : Limb :=
  xorTo 8 fun t => if (pi b).getLsbD t then A (63 - 8 * j - t) else 0#64

/-- The tables at the spec's default values (R8), the ones of GOST R 34.11-2012. `step` takes these (log entry 8). -/
def standardTables : Tables where
  T := lpsTable
  C := C

end Sys2Proof.Machine
end

