-- ==== Sys2Proof/Machine/Lps.lean ====
section
/-! DEFINITION. The LPS transform (spec/40_lps.md R121 to R127): the composed steps S, P and L of the
standard tables, and `lps` over any tables. -/

namespace Sys2Proof.Machine

/-- `TAU(i) = 8·(i mod 8) + floor(i / 8)` (R121). -/
def tau (i : Nat) : Nat := 8 * (i % 8) + i / 8

/-- `l(w)` (R123): bit `63 - i` of `w` selects `A[i]`. -/
def linear (w : Limb) : Limb := xorTo 64 fun i => if w.getLsbD (63 - i) then A i else 0#64

/-- `S(x)` (R124). -/
def stepS (x : Block) : Block := x.map pi

/-- `P(x)` (R121, R124). -/
def stepP (x : Block) : Block := Vector.ofFn fun i => byteAt x (tau i.val)

/-- `L(x)` (R124). -/
def stepL (x : Block) : Block := bytes ((words x).map linear)

/-- Output word `k` of the fused lookup: the exclusive-or over the lanes `j` of `T[j][x[k + 8j]]` (R126). -/
def lpsWord (tables : Tables) (x : Block) (k : Nat) : Limb := xorTo 8 fun j => tables.T j (byteAt x (k + 8 * j))

/-- `lps(state, tweak)` (R126): the new value of `state`. -/
@[irreducible] def lps (tables : Tables) (state tweak : Block) : Block :=
  bytes (Vector.ofFn fun k => lpsWord tables (xorBlock state tweak) k.val)

end Sys2Proof.Machine
end

