-- ==== Sys2Proof/Machine/Compression.lean ====
section
/-! DEFINITION. The compression function `g` (spec/41_compression_g.md R160) and its reading as a cipher (R161). -/

namespace Sys2Proof.Machine

/-- The two working registers of `g` (R160, spec/10_state.md R32). -/
structure Cipher where
  key  : Block
  data : Block
deriving DecidableEq, Repr

/-- One round of R160: `data` takes the key of the round, then `key` takes `C[i]`. -/
def cipherRound (tables : Tables) (i : Nat) (c : Cipher) : Cipher where
  data := lps tables c.data c.key
  key  := lps tables c.key (tables.C i)

/-- Rounds 0 to `count - 1` of R160, in order. -/
def cipherRounds (tables : Tables) (count : Nat) (c : Cipher) : Cipher :=
  match count with
  | 0 => c
  | i + 1 => cipherRound tables i (cipherRounds tables i c)

/-- The registers after the seed LPS: `key = LPS(h xor tweak)`, `data = block` (R160). -/
def cipherSeed (tables : Tables) (h tweak block : Block) : Cipher where
  key  := lps tables h tweak
  data := block

/-- The feed-forward of R160: `h xor data xor key xor block`. -/
@[irreducible] def feedForward (h : Block) (c : Cipher) (block : Block) : Block :=
  xorBlock (xorBlock (xorBlock h c.data) c.key) block

/-- `g(tweak, block)` (R160): the new value of the register `h`, whose value on entry is the first argument. -/
@[irreducible] def g (tables : Tables) (h tweak block : Block) : Block :=
  feedForward h (cipherRounds tables 12 (cipherSeed tables h tweak block)) block

/-- `K_(r+1)` of R161: the seed for `r` = 0, then `LPS(K_r xor C[r-1])`. -/
def roundKey (tables : Tables) (h tweak : Block) (r : Nat) : Block :=
  match r with
  | 0 => lps tables h tweak
  | i + 1 => lps tables (roundKey tables h tweak i) (tables.C i)

/-- `X_r` of R161: the block for `r` = 0, then `LPS(X_(r-1) xor K_r)`. -/
def roundData (tables : Tables) (h tweak block : Block) (r : Nat) : Block :=
  match r with
  | 0 => block
  | i + 1 => lps tables (roundData tables h tweak block i) (roundKey tables h tweak i)

end Sys2Proof.Machine
end

