-- ==== Sys2Proof/Machine/Operands.lean ====
section
/-! DEFINITION. The operand forms of the commands: the checked size of INIT and its initial value (spec/43_controller.md R202, R203),
the padded block of FINALIZE (R206), the truncated digest (R207), and the checks an operand can fail (R201). -/

namespace Sys2Proof.Machine

/-- INIT accepts `SIZE` 32 and 64 and no other value (R201, spec/60_exceptions.md R251). -/
def sizeObjection (size : Nat) : Option Error :=
  if size = 32 ∨ size = 64 then none else some .invalidOutputSize

/-- UPDATE and FINALIZE need `STATE` = STREAMING (R201, R252). -/
def stateObjection (s : State) : Option Error :=
  if s.life = .streaming then none else some .illegalState

/-- `IV(s)` (R203): sixty-four 0x01 bytes for 32, sixty-four 0x00 bytes for 64. -/
def initialValue (size : Nat) : Block := Vector.replicate 64 (if size = 32 then 0x01#8 else 0x00#8)

/-- `pad(DIN, p)` (R206). -/
@[irreducible] def pad (din : Block) (p : Nat) : Block :=
  Vector.ofFn fun i => if i.val < p then din[i] else if i.val = p then 0x01#8 else 0x00#8

/-- `digest(h, s)` (R207): the last `s` bytes of `h`, then zeros. -/
@[irreducible] def digest (h : Block) (s : Nat) : Block :=
  Vector.ofFn fun k => if k.val < s then byteAt h (64 - s + k.val) else 0x00#8

/-- The block a command compresses: `DIN` for UPDATE, `PB` for FINALIZE (R204, R205). INIT compresses none. -/
def blockOperand (i : Instr) (s : State) : Block :=
  match i with
  | .init _ => zero64
  | .update => s.din
  | .finalize p => pad s.din p

/-- The byte count a command adds to `n`: 64 from UPDATE, `POS` from FINALIZE (spec/42_adder.md R181). INIT adds none. -/
def lengthOperand (i : Instr) : Nat :=
  match i with
  | .init _ => 0
  | .update => 64
  | .finalize p => p

end Sys2Proof.Machine
end

