-- ==== Sys2Proof/Machine/Sequencer.lean ====
section
/-! DEFINITION. The working state of a running command (spec/10_state.md R32) and the sequencer that moves it on: one LPS seed, one
round, one feed-forward or one accumulator update at a time, in the order the spec fixes (spec/42_adder.md R185,
spec/70_reset_and_hazards.md R286). Nothing here is visible to the host; completion (Machine/Engine.lean) commits the command's
effect (R208). The grain is log entry 7. -/

namespace Sys2Proof.Machine

/-- The working state at acceptance. UPDATE and FINALIZE start at the seed of their first `g`, from the registers and `DIN` as they
are when the `CMD` write is accepted (spec/20_memory.md R72). INIT has nothing to work out (spec/70 R287: no `g` call). -/
def Work.start (i : Instr) (s : State) : Work :=
  match i with
  | .init size =>
    { cmd := i, stage := .done, round := 0, key := zero64, data := zero64, pb := blockOperand i s,
      h := initialValue size, n := Vector.replicate 8 0#64, sigma := Vector.replicate 8 0#64 }
  | .update =>
    { cmd := i, stage := .seed .block, round := 0, key := zero64, data := zero64, pb := blockOperand i s,
      h := s.h, n := s.n, sigma := s.sigma }
  | .finalize _ =>
    { cmd := i, stage := .seed .block, round := 0, key := zero64, data := zero64, pb := blockOperand i s,
      h := s.h, n := s.n, sigma := s.sigma }

/-- `tweak` of a `g` call (spec/41_compression_g.md R163). -/
def Work.tweakOf (w : Work) (c : GCall) : Block :=
  match c with
  | .block => bytes w.n
  | .foldN => zero64
  | .foldSigma => zero64

/-- `block` of a `g` call (R163). -/
def Work.blockOf (w : Work) (c : GCall) : Block :=
  match c with
  | .block => w.pb
  | .foldN => bytes w.n
  | .foldSigma => bytes w.sigma

/-- What follows the feed-forward of a `g` call: the accumulator updates after the block's, then the folds (R200, R205). -/
def afterFeed (c : GCall) : Stage :=
  match c with
  | .block => .addN
  | .foldN => .seed .foldSigma
  | .foldSigma => .done

/-- What follows the accumulator updates: the folds of FINALIZE, and nothing for the other commands (R204, R205). -/
def afterAdd (i : Instr) : Stage :=
  match i with
  | .init _ => .done
  | .update => .done
  | .finalize _ => .seed .foldN

/-- One move of the sequencer. -/
def Work.advance (tables : Tables) (w : Work) : Work :=
  match w.stage with
  | .seed c => { w with key := lps tables w.h (w.tweakOf c), data := w.blockOf c, round := 0, stage := .round c }
  | .round c =>
    { w with data := lps tables w.data w.key, key := lps tables w.key (tables.C w.round.val),
             round := w.round + 1, stage := if w.round = 11 then .feed c else .round c }
  | .feed c => { w with h := feedForward w.h { key := w.key, data := w.data } (w.blockOf c), stage := afterFeed c }
  | .addN => { w with n := updateN w.n (lengthOperand w.cmd), stage := .addSigma }
  | .addSigma => { w with sigma := updateSigma w.sigma w.pb, stage := afterAdd w.cmd }
  | .done => w

/-- `count` moves of the sequencer. -/
def Work.advanceBy (tables : Tables) (count : Nat) (w : Work) : Work :=
  match count with
  | 0 => w
  | k + 1 => (w.advanceBy tables k).advance tables

/-- LPS operations of one move (spec/41_compression_g.md R162). -/
def Stage.lpsOps : Stage → Nat
  | .seed _ => 1
  | .round _ => 2
  | .feed _ => 0
  | .addN => 0
  | .addSigma => 0
  | .done => 0

/-- 64-bit `adc` operations of one move (spec/70_reset_and_hazards.md R287). -/
def Stage.adcOps : Stage → Nat
  | .seed _ => 0
  | .round _ => 0
  | .feed _ => 0
  | .addN => 8
  | .addSigma => 8
  | .done => 0

/-- `g` calls begun in one move (R287). -/
def Stage.gCalls : Stage → Nat
  | .seed _ => 1
  | .round _ => 0
  | .feed _ => 0
  | .addN => 0
  | .addSigma => 0
  | .done => 0

/-- Operations of one kind over the next `count` moves. -/
def Work.opsOver (tables : Tables) (kind : Stage → Nat) (count : Nat) (w : Work) : Nat :=
  match count with
  | 0 => 0
  | k + 1 => kind w.stage + (w.advance tables).opsOver tables kind k

end Sys2Proof.Machine
end

