-- ==== Sys2Proof/Machine/Ops.lean ====
section
/-! DEFINITION. The named operations over the registers: raising an error and clearing it (spec/60_exceptions.md R256,
spec/43_controller.md R209), accepting a command (R201), the datapath operations on the registers (R200), the window's words
(spec/20_memory.md R62, R63, R66), and reset (spec/70_reset_and_hazards.md R280). -/

namespace Sys2Proof.Machine

/-- `raise E()` (R256): the first error since the last clear is recorded, and no other state changes. -/
def State.raise (e : Error) (s : State) : State :=
  if s.err then s else { s with err := true, errcode := some e }

/-- The engine's only return from error (R209): `ERR <- 0`, `ERRCODE <- 0`. -/
def State.clearError (s : State) : State := { s with err := false, errcode := none }

/-- An accepted command: `BUSY <- 1; start c` (R201). -/
def State.accept (i : Instr) (s : State) : State := { s with busy := true, work := some (Work.start i s) }

/-- `issue_command` after decoding (R201, spec/60_exceptions.md R255): BUSY first, then the command's own check, then acceptance. -/
def State.issue (i : Instr) (objection : Option Error) (s : State) : State :=
  if s.busy then s.raise .busyViolation
  else match objection with
    | some e => s.raise e
    | none => s.accept i

/-- `issue_command` of a word that decodes as ILLEGAL (R201, R255). -/
def State.issueIllegal (s : State) : State :=
  if s.busy then s.raise .busyViolation else s.raise .illegalCommand

/-- `compress(block, len_bytes)` (R200): `g` with `n` before its update, then `update_n`, then `update_sigma`. -/
def State.compress (tables : Tables) (block : Block) (lenBytes : Nat) (s : State) : State :=
  { s with h := g tables s.h (bytes s.n) block, n := updateN s.n lenBytes, sigma := updateSigma s.sigma block }

/-- `g(ZERO64, block)`, a fold of FINALIZE (R205, spec/41_compression_g.md R163). -/
def State.fold (tables : Tables) (block : Block) (s : State) : State := { s with h := g tables s.h zero64 block }

/-- A write of `DIN` word `j` (spec/20_memory.md R65): BUSY_VIOLATION while `BUSY` = 1. -/
def State.writeDin (j : Nat) (v : Word) (s : State) : State :=
  if s.busy then s.raise .busyViolation else { s with din := putWord s.din j v }

/-- A write of `STATUS` (R65, R209): bit 3 clears the error, every other bit is ignored. -/
def State.writeStatus (v : Word) (s : State) : State := if v.getLsbD 3 then s.clearError else s

/-- What word `widx` of the window holds (R62, R63): the register contents, whether or not a read may see them now. -/
def State.windowWord (s : State) (widx : WordIndex) : Word :=
  let j := widx.toNat
  if j = 1 then statusWord s
  else if 16 ≤ j ∧ j < 32 then wordOf s.din (j - 16)
  else if 32 ≤ j ∧ j < 48 then wordOf s.dout (j - 32)
  else if 48 ≤ j ∧ j < 64 then wordOf s.h (j - 48)
  else if 64 ≤ j ∧ j < 80 then wordOf (bytes s.n) (j - 64)
  else if 80 ≤ j ∧ j < 96 then wordOf (bytes s.sigma) (j - 80)
  else 0#32

/-- Whether a read of word `widx` returns `ANY32`: every read while `rst` is asserted (spec/70 R280), and reads of `DOUT`, `H`, `N`
and `SIGMA` while `BUSY` = 1 (R66). -/
def State.readIsFree (s : State) (widx : WordIndex) : Bool :=
  s.rst || (s.busy && decide (32 ≤ widx.toNat ∧ widx.toNat < 96))

/-- A host read (R66): `rdata` takes the word's value, or a fresh free value where the spec says `ANY32`. Nothing else
changes (R68). DESIGN CHOICE (log entry 4): an engine counts its own draws over the one constant `Config.any32`, so the `k`-th free
read of one engine gives what the `k`-th of another gives; the spec relates no two such reads (spec/93 U1). -/
def State.read (widx : WordIndex) (s : State) : State :=
  if s.readIsFree widx then { s with rdata := Config.any32 s.draws, draws := s.draws + 1 }
  else { s with rdata := s.windowWord widx }

/-- Every register at its value of spec/10_state.md R38, and no command running. The port's own signals and the model's
account of the host are kept. -/
def State.resetRegisters (s : State) : State :=
  { State.reset with rst := s.rst, rdata := s.rdata, ops := s.ops, turns := s.turns, draws := s.draws }

/-- The reset input goes to a level (R280): the registers take their reset values while it is asserted and at its release. DESIGN
CHOICE (log entry 5): the first clock edge after the release, on which R280 has the registers take their reset values once more, is
part of the release turn, so no access falls between the release and that edge, and every access after the release takes effect.
R280 closes the port only while `rst` is asserted and does not say whether it performs an access on that edge. -/
def State.driveReset (level : Bool) (s : State) : State :=
  if level || s.rst then { s.resetRegisters with rst := level } else s

/-- While `rst` is asserted, every piece of state takes its reset value (R280). -/
def State.holdReset (s : State) : State := if s.rst then s.resetRegisters else s

end Sys2Proof.Machine
end

