-- ==== Sys2Proof/Machine/Finalize.lean ====
section
/-! DEFINITION. FINALIZE: pad, compress, fold in `n` and `sigma`, emit the digest (spec/43_controller.md R205). -/

namespace Sys2Proof.Machine

/-- The `CMD` write of `FINALIZE pos` (R201): ILLEGAL_STATE unless STREAMING. -/
def execFinalize (pos : Nat) (s : State) : Host.Outcome State Fault Refusal :=
  .next (s.issue (.finalize pos) (stateObjection s))

/-- Step 6 of R205: `DOUT <- digest(h, OUTSIZE)` and `STATE <- FINALIZED`. -/
def State.emit (s : State) : State := { s with dout := digest s.h s.outsize.toNat, life := .finalized }

/-- The effect of FINALIZE, committed at completion (R205): steps 1 to 6. -/
def commitFinalize (tables : Tables) (pos : Nat) (s : State) : State :=
  let s3 := s.compress tables (pad s.din pos) pos
  let s4 := s3.fold tables (bytes s3.n)
  let s5 := s4.fold tables (bytes s4.sigma)
  s5.emit

end Sys2Proof.Machine
end

