-- ==== Sys2Proof/Machine/Init.lean ====
section
/-! DEFINITION. INIT: open a session (spec/43_controller.md R202). -/

namespace Sys2Proof.Machine

/-- The `CMD` write of `INIT size` (R201): legal in every lifecycle state, with `SIZE` checked. -/
def execInit (size : Nat) (s : State) : Host.Outcome State Fault Refusal :=
  .next (s.issue (.init size) (sizeObjection size))

/-- The effect of INIT, committed at completion (R202). -/
def commitInit (size : Nat) (s : State) : State :=
  { s with
    outsize := BitVec.ofNat 8 size
    h := initialValue size
    n := Vector.replicate 8 0#64
    sigma := Vector.replicate 8 0#64
    dout := zero64
    life := .streaming }

end Sys2Proof.Machine
end

