-- ==== Sys2Proof/Machine/Update.lean ====
section
/-! DEFINITION. UPDATE: compress one full block (spec/43_controller.md R204). -/

namespace Sys2Proof.Machine

/-- The `CMD` write of `UPDATE` (R201): ILLEGAL_STATE unless STREAMING. -/
def execUpdate (s : State) : Host.Outcome State Fault Refusal :=
  .next (s.issue .update (stateObjection s))

/-- The effect of UPDATE, committed at completion (R204): `compress(DIN, 64)`. -/
def commitUpdate (tables : Tables) (s : State) : State := s.compress tables s.din 64

end Sys2Proof.Machine
end

