-- ==== Sys2Proof/Machine/Dispatch.lean ====
section
/-! DEFINITION. One arm per command: the meaning of its `CMD` write (spec/43_controller.md R201). -/

namespace Sys2Proof.Machine

def exec (i : Instr) (s : State) : Host.Outcome State Fault Refusal :=
  match i with
  | .init size => Sys2Proof.Machine.execInit size s
  | .update => Sys2Proof.Machine.execUpdate s
  | .finalize pos => Sys2Proof.Machine.execFinalize pos s

end Sys2Proof.Machine
end

