-- ==== Sys2Proof/Machine/Engine.lean ====
section
/-! DEFINITION. The engine's own steps: completion of the running command (spec/43_controller.md R208), and its unobservable work
inside the command (spec/10_state.md R32). -/

namespace Sys2Proof.Machine

/-- The whole effect of a command (R202, R204, R205). -/
def State.commit (tables : Tables) (i : Instr) (s : State) : State :=
  match i with
  | .init size => commitInit size s
  | .update => commitUpdate tables s
  | .finalize pos => commitFinalize tables pos s

/-- Completion (R208): the running command's whole effect in one step, and `BUSY <- 0`; its working state is discarded
(R32). With no command running there is nothing to complete. -/
def State.complete (tables : Tables) (s : State) : State :=
  match s.work with
  | none => s
  | some w => { s.commit tables w.cmd with busy := false, work := none }

/-- One move inside the running command (R32). -/
def State.workOn (tables : Tables) (s : State) : State := { s with work := s.work.map (Work.advance tables) }

end Sys2Proof.Machine
end

