-- ==== Sys2Proof/Machine/Port.lean ====
section
/-! DEFINITION. The slave port (spec/20_memory.md R61, R65, R66), the host's operations on it (spec/30_encoding.md R96, R97), and the
four kinds of step (R69, spec/70_reset_and_hazards.md R280). -/

namespace Sys2Proof.Machine

/-- `issue_command(v)` (spec/43_controller.md R201). -/
def issueCommand (v : Word) (s : State) : Host.Outcome State Fault Refusal :=
  match decode v with
  | .command i => exec i s
  | .illegal _ => .next s.issueIllegal

/-- A host write `MemWrite(BASE + 4·widx, 4, v)` (R65). -/
def portWrite (widx : WordIndex) (v : Word) (s : State) : Host.Outcome State Fault Refusal :=
  if widx.toNat = 0 then issueCommand v s
  else if widx.toNat = 1 then .next (s.writeStatus v)
  else if 16 ≤ widx.toNat ∧ widx.toNat < 32 then .next (s.writeDin (widx.toNat - 16) v)
  else .next s

/-- `WAIT` (R97): read `STATUS`, and stay at the same operation while the value read has bit 2 (BUSY) set (log entry 12). -/
def State.waitPoll (s : State) : State :=
  let t := s.read 1#7
  if t.rdata.getLsbD 2 then { t with ops := .wait :: t.ops } else t

/-- One host operation. While `rst` is asserted the port accepts no access: a write has no effect (R280). -/
def runOp (op : HostOp) (s : State) : Host.Outcome State Fault Refusal :=
  match op with
  | .write widx v => if s.rst then .next s else portWrite widx v s
  | .read widx => .next (s.read widx)
  | .wait => .next s.waitPoll

/-- The state with the host's operations still to come replaced. -/
def State.withOps (ops : List HostOp) (s : State) : State := { s with ops := ops }

/-- The host's turn: its next operation, or none (the engine "holds its state indefinitely", spec/60_exceptions.md R264). -/
def State.hostTurn (s : State) : Host.Outcome State Fault Refusal :=
  match s.ops with
  | [] => .next s
  | op :: rest => runOp op (s.withOps rest)

/-- Who moves when `turns` is empty: the engine completes a running command, else the host (log entry 2; the weak fairness of
spec/70 R285). -/
def State.fairTurn (s : State) : Turn := if s.busy then .complete else .host

/-- The turn taken now. -/
def State.nextTurn (s : State) : Turn :=
  match s.turns with
  | [] => s.fairTurn
  | t :: _ => t

/-- The state with that turn taken off the list. -/
def State.takeTurn (s : State) : State := { s with turns := s.turns.tail }

/-- What a turn does. -/
def runTurn (tables : Tables) (t : Turn) (s : State) : Host.Outcome State Fault Refusal :=
  match t with
  | .host => s.hostTurn
  | .complete => .next (s.complete tables)
  | .work => .next (s.workOn tables)
  | .reset level => .next (s.driveReset level)

end Sys2Proof.Machine
end

