-- ==== Sys2Proof/Machine/Step.lean ====
section
/-! DEFINITION. One step: whoever's turn it is moves. -/

namespace Sys2Proof.Machine

/-- One step of an engine built with the given tables (spec/00_scope.md R8), with its host (spec/20_memory.md R69). -/
def stepWith (tables : Tables) (s : State) : Host.Outcome State Fault Refusal :=
  runTurn tables s.nextTurn s.holdReset.takeTurn

/-- One step of the engine with the spec's default tables (R8, log entry 8). -/
def step (s : State) : Host.Outcome State Fault Refusal := stepWith standardTables s

/-- `s` with the host about to write the row's word to `CMD` (word index 0) in the very next step. The engine fetches nothing
(R71): the command word reaches it as a write, so the pending operations and the turns are where a program stands. The reset
input is released, since the port accepts no access while it is asserted (log entry 1). -/
def State.withFetchWord (s : State) (nbits w : Nat) : State :=
  { s with ops := .write 0#7 (tableWord nbits w) :: s.ops, turns := .host :: s.turns, rst := false }

end Sys2Proof.Machine
end

