-- ==== Sys2Proof/Machine/HostProgram.lean ====
section
/-! DEFINITION. The host-program syntax and its pseudo-instructions (spec/30_encoding.md R96, R97), and the sequence a host runs to hash a
message (spec/43_controller.md R211). They only write lists of host operations. -/

namespace Sys2Proof.Machine

/-- The five 64-byte arrays of the window. -/
inductive ArrayName where
  | din
  | dout
  | h
  | n
  | sigma
deriving DecidableEq, Repr

/-- `W_X` (spec/20_memory.md R63). -/
def ArrayName.firstWord : ArrayName → Nat
  | .din => 16
  | .dout => 32
  | .h => 48
  | .n => 64
  | .sigma => 80

/-- `widx(X+j) = W_X + j` (R96). -/
def ArrayName.widx (x : ArrayName) (j : Nat) : WordIndex := BitVec.ofNat 7 (x.firstWord + j)

/-- A command mnemonic: the single `wr CMD` word, with no implied wait (R96). -/
def command (i : Instr) : List HostOp := [.write 0#7 (encode i)]

/-- `LOADBLK b` (R97). -/
def loadblk (b : Block) : List HostOp := (List.range 16).map fun j => .write (ArrayName.din.widx j) (wordOf b j)

/-- `CLRERR` (R97). -/
def clrerr : List HostOp := [.write 1#7 0x00000008#32]

/-- `READ64 X` (R97). -/
def read64 (x : ArrayName) : List HostOp := (List.range 16).map fun j => .read (x.widx j)

/-- `HASHBLK b` (R97). -/
def hashblk (b : Block) : List HostOp := loadblk b ++ command .update ++ [.wait]

/-- The 64 bytes of `m` from byte `i` on, zeros past its end: `(… ‖ ZERO64)[0..64)`. -/
def blockFrom (m : List Byte) (i : Nat) : Block := Vector.ofFn fun k => m.getD (i + k.val) 0x00#8

/-- `FINAL t, p` (R97). -/
def finalOps (t : List Byte) (p : Nat) : List HostOp :=
  loadblk (blockFrom (t.take p) 0) ++ command (.finalize p) ++ [.wait]

/-- The sequence of R211 for a message `m` at digest size `size`. -/
def hashProgram (size : Nat) (m : List Byte) : List HostOp :=
  command (.init size) ++ [.wait] ++
    (List.range (m.length / 64)).flatMap (fun b => hashblk (blockFrom m (64 * b))) ++
    finalOps (m.drop (64 * (m.length / 64))) (m.length % 64) ++ read64 .dout

end Sys2Proof.Machine
end

