-- ==== Sys2Proof/Machine/Platform.lean ====
section
/-! DEFINITION. Engines side by side on a platform (spec/00_scope.md R8 `BASE`, `NUM_ENGINES`; spec/20_memory.md R60, R61, R64, R74;
spec/60_exceptions.md R262), and the host's bus access by address. The engines of a platform are instances of one design: they are
built with the same tables, an argument here too (R8 `LPS_TABLE`, `C`). -/

namespace Sys2Proof.Machine

/-- One engine and where its window lies: `BASE` = 0x200 · `block` (R8: a multiple of 0x200). -/
structure Placed where
  block  : Nat
  engine : State
deriving DecidableEq, Repr

/-- The engines of a platform. -/
abbrev Platform := List Placed

/-- `BASE` of an engine (R8). -/
def Placed.base (e : Placed) : Nat := 0x200 * e.block

/-- There is at least one engine, and no two windows lie at one place (R8, R74). -/
def Platform.wf (p : Platform) : Bool := decide (1 ≤ p.length ∧ (p.map Placed.block).Nodup)

/-- A bus access: its address, its size in bytes, and for a write its data. -/
structure BusAccess where
  addr : Nat
  size : Nat
  data : Option Word
deriving DecidableEq, Repr

/-- The word index of an address within its window: `BASE + 4·widx` (R61). -/
def widxOf (addr : Nat) : WordIndex := BitVec.ofNat 7 (addr % 0x200 / 4)

/-- The port's access of one engine (R65, R66), as the host's operation. -/
def BusAccess.op (a : BusAccess) : HostOp :=
  match a.data with
  | some v => .write (widxOf a.addr) v
  | none => .read (widxOf a.addr)

/-- The engine's answer to a bus access: while `rst` is asserted its registers are at their reset values (spec/70 R280). -/
def Placed.deliver (a : BusAccess) (e : Placed) : Host.Outcome Placed Fault Refusal :=
  match runOp a.op e.engine.holdReset with
  | .next s => .next { e with engine := s }
  | .fault r => .fault r
  | .refused r => .refused r

/-- The access reaches the engine whose window holds the address, and no other (R74). -/
def Platform.route (a : BusAccess) (p : Platform) : Host.Outcome Platform Fault Refusal :=
  match p with
  | [] => .refused .outsideWindows
  | e :: rest =>
    if e.block = a.addr / 0x200 then
      match e.deliver a with
      | .next e' => .next (e' :: rest)
      | .fault r => .fault r
      | .refused r => .refused r
    else
      match Platform.route a rest with
      | .next rest' => .next (e :: rest')
      | .fault r => .fault r
      | .refused r => .refused r

/-- A host access by address. Only whole 32-bit words exist on the port (R64): any other access is refused (spec/93 U7). -/
def Platform.access (a : BusAccess) (p : Platform) : Host.Outcome Platform Fault Refusal :=
  if a.size ≠ 4 then .refused .notAWord
  else if a.addr % 4 ≠ 0 then .refused .notAligned
  else p.route a

/-- One step of engine number `k`, by its own host and sequencer (R74). -/
def Platform.stepAt (tables : Tables) (k : Nat) (p : Platform) : Host.Outcome Platform Fault Refusal :=
  match p[k]? with
  | none => .refused .noSuchEngine
  | some e =>
    match stepWith tables e.engine with
    | .next s => .next (p.set k { e with engine := s })
    | .fault r => .fault r
    | .refused r => .refused r

end Sys2Proof.Machine
end

