-- ==== Sys2Proof/Safety.lean ====
section
/-! DEFINITION. What counts as a good state and a safe run, in the terms the statements use: the invariants (spec/10_state.md R36),
runs, the stricter reading of errors (spec/60_exceptions.md R265), and the comparisons between two states. -/

namespace Sys2Proof.Machine

/-! ## Invariants -/

/-- A command that acceptance lets through in `s` (spec/43_controller.md R201). -/
def acceptable (i : Instr) (s : State) : Prop :=
  match i with
  | .init size => size = 32 ∨ size = 64
  | .update => s.life = .streaming
  | .finalize pos => pos < 64 ∧ s.life = .streaming

/-- What holds of the control registers in every reachable state (R36, R27, R26, R280). -/
structure State.Inv (s : State) : Prop where
  /-- R36 item 1. -/
  session    : s.life = .uninit ↔ s.outsize = 0#8
  /-- R36 item 2. -/
  sizes      : s.life ≠ .uninit → s.outsize = 32#8 ∨ s.outsize = 64#8
  /-- R36 item 3 and R27: `ERRCODE` names an error exactly while `ERR` = 1. -/
  error      : s.err = s.errcode.isSome
  /-- R26, R32: `BUSY` = 1 exactly while a command runs. -/
  running    : s.busy = s.work.isSome
  /-- A running command was acceptable, and still is (R201). -/
  accepted   : ∀ w, s.work = some w → acceptable w.cmd s
  /-- While `rst` is asserted the registers are at their reset values (R280). -/
  underReset : s.rst = true → s.resetRegisters = s

/-- The working state of a running command is always some number of moves from its start, with the registers and `DIN` as they
were at acceptance (spec/10_state.md R32, spec/20_memory.md R72). -/
def State.WorkInv (tables : Tables) (s : State) : Prop :=
  ∀ w, s.work = some w → ∃ k, w = (Work.start w.cmd s).advanceBy tables k

/-- What each lifecycle state says of the data registers (spec/10_state.md R22, R29, R38, spec/43_controller.md R202, R205, R207). -/
structure State.SessionData (s : State) : Prop where
  /-- Before any INIT the registers are as reset left them. -/
  fresh     : s.life = .uninit → s.h = zero64 ∧ s.n = words zero64 ∧ s.sigma = words zero64 ∧ s.dout = zero64
  /-- While streaming, INIT's zeros are still in `DOUT`, and `n` counts whole blocks of 512 bits. -/
  streaming : s.life = .streaming → s.dout = zero64 ∧ (limbAt s.n 0).toNat % 512 = 0
  /-- After FINALIZE, `DOUT` is the digest of the `h` that the `H` window shows. -/
  finalized : s.life = .finalized → s.dout = digest s.h s.outsize.toNat

/-! ## Runs -/

/-- `count` steps of an engine built with the given tables. -/
def run (tables : Tables) (count : Nat) (s : State) : Host.Outcome State Fault Refusal :=
  match count with
  | 0 => .next s
  | k + 1 =>
    match stepWith tables s with
    | .next t => run tables k t
    | .fault r => .fault r
    | .refused r => .refused r

/-- A command given while none runs, and completed with nothing between (spec/30_encoding.md R97: the command, then `WAIT`). -/
def commandThenWait (tables : Tables) (i : Instr) (s : State) : State :=
  match exec i s with
  | .next t => t.complete tables
  | .fault _ => s
  | .refused _ => s

/-- One UPDATE for each block of the list, each with its block in `DIN` (spec/30_encoding.md R91). -/
def updateBlocks (tables : Tables) (blocks : List Block) (s : State) : State :=
  match blocks with
  | [] => s
  | b :: rest => updateBlocks tables rest (commandThenWait tables .update { s with din := b })

/-! ## Errors -/

/-- The checks of a `CMD` write with their errors, in the order of R255. -/
def commandChecks (v : Word) (s : State) : List (Bool × Error) :=
  [(s.busy, .busyViolation),
   (match decode v with | .illegal _ => true | .command _ => false, .illegalCommand),
   (match decode v with
     | .command .update => decide (s.life ≠ .streaming)
     | .command (.finalize _) => decide (s.life ≠ .streaming)
     | .command (.init _) => false
     | .illegal _ => false, .illegalState),
   (match decode v with
     | .command (.init size) => decide (size ≠ 32 ∧ size ≠ 64)
     | .command .update => false
     | .command (.finalize _) => false
     | .illegal _ => false, .invalidOutputSize)]

/-- The error a `CMD` write reports: the first check that applies (R255). -/
def firstError (v : Word) (s : State) : Option Error := ((commandChecks v s).find? (·.1)).map (·.2)

/-- A recorded error as a fault of the run. -/
def Error.asFault : Error → Fault
  | .invalidOutputSize => .invalidOutputSize
  | .illegalState => .illegalState
  | .illegalCommand => .illegalCommand
  | .busyViolation => .busyViolation

/-- The stricter reading of R265 and spec/93 U2 to U6: a step that leaves an error recorded is a fault of the run. The hardware
goes on (log entry 6). -/
def strictStep (s : State) : Host.Outcome State Fault Refusal :=
  match step s with
  | .next t =>
    match t.errcode with
    | some e => .fault e.asFault
    | none => .next t
  | .fault r => .fault r
  | .refused r => .refused r

/-! ## Comparing states -/

/-- The two states differ at most in what a running command works on: `h`, `n`, `sigma`, `DOUT` and the working state. -/
def State.SameOutsideCommand (s t : State) : Prop :=
  ∃ h n sigma dout work, t = { s with h := h, n := n, sigma := sigma, dout := dout, work := work }

/-- The registers only commands and reset write: `h`, `n`, `sigma`, `OUTSIZE`, `STATE`, `DOUT` (spec/10_state.md R20). -/
def State.sameResults (s t : State) : Prop :=
  t.h = s.h ∧ t.n = s.n ∧ t.sigma = s.sigma ∧ t.outsize = s.outsize ∧ t.life = s.life ∧ t.dout = s.dout

/-- Every register at its value of spec/10_state.md R38. -/
def State.AtResetValues (s : State) : Prop :=
  s.life = .uninit ∧ s.outsize = 0#8 ∧ s.busy = false ∧ s.err = false ∧ s.errcode = none ∧
    (∀ i, byteAt s.h i = 0x00#8) ∧ intOf s.n = 0 ∧ intOf s.sigma = 0 ∧
    (∀ i, byteAt s.din i = 0x00#8) ∧ (∀ i, byteAt s.dout i = 0x00#8) ∧ s.work = none

end Sys2Proof.Machine
end

