-- ==== Sys2Proof/Certificates/Slice0/Obligations.lean ====
section
/-! DEFINITION. The statements for the provers. Each docstring names the rule of spec/ it formalises. A statement in which the
values of the constant tables can show speaks of every `tables` (spec/00_scope.md R8) and of `stepWith tables`; the machine's
`step` is `stepWith standardTables` by definition. -/

open Sys2Proof Sys2Proof.Machine

/-! ## Encoding -/

/-- spec/30_encoding.md R94, R96: decoding the word of a well-formed command gives the command, with its operand. -/
def Obligations.DecodeOfEncode : Prop :=
  ∀ i : Instr, i.wellFormed = true → decode (encode i) = .command i

/-- R92, R94: a word that decodes to a command is the word of that command, and the command is well-formed. -/
def Obligations.EncodeOfDecode : Prop :=
  ∀ (v : Word) (i : Instr), decode v = .command i → i.wellFormed = true ∧ encode i = v

/-- R92: which words are legal encodings of each command, in the spec's own masks. -/
def Obligations.LegalWordsByMask : Prop :=
  ∀ v : Word,
    ((∃ size, decode v = .command (.init size)) ↔ v &&& 0xF#32 = 0x1#32 ∧ v &&& ~~~0x0000FF0F#32 = 0#32) ∧
    (decode v = .command .update ↔ v &&& 0xF#32 = 0x2#32 ∧ v &&& ~~~0x0000000F#32 = 0#32) ∧
    ((∃ pos, decode v = .command (.finalize pos)) ↔ v &&& 0xF#32 = 0x3#32 ∧ v &&& ~~~0x003F000F#32 = 0#32)

/-- R95: exactly 256 + 1 + 64 words are commands, and a word that is none raises ILLEGAL_COMMAND and changes nothing but
`ERR` and `ERRCODE`. -/
def Obligations.LegalWordCount : Prop :=
  (∃ l : List Word, l.Nodup ∧ l.length = 256 + 1 + 64 ∧ ∀ v, v ∈ l ↔ ∃ i, decode v = .command i) ∧
  ∀ (v : Word) (s : State), (¬ ∃ i, decode v = .command i) → s.busy = false →
    issueCommand v s = .next (if s.err then s else { s with err := true, errcode := some .illegalCommand })

/-- R98: the words of the table there decode as it says. -/
def Obligations.ListedWordsDecode : Prop :=
  decode 0x00002001#32 = .command (.init 32) ∧ decode 0x00004001#32 = .command (.init 64) ∧
  decode 0x00003001#32 = .command (.init 48) ∧ decode 0x00000001#32 = .command (.init 0) ∧
  decode 0x00000002#32 = .command .update ∧
  decode 0x00000003#32 = .command (.finalize 0) ∧ decode 0x00240003#32 = .command (.finalize 36) ∧
  decode 0x003F0003#32 = .command (.finalize 63) ∧
  decode 0x00000000#32 = .illegal .reservedOp ∧ decode 0x00000004#32 = .illegal .reservedOp ∧
  decode 0x00010002#32 = .illegal .reservedBits ∧ decode 0x00402001#32 = .illegal .reservedBits ∧
  decode 0x00400003#32 = .illegal .reservedBits ∧ decode 0x00002011#32 = .illegal .reservedBits

/-! ## The step -/

/-- R71, spec/43_controller.md R201: when it is the host's turn and its next operation writes a word to `CMD`, the step is the
meaning of the command the word decodes to, on the state with that turn and that operation taken off; a word that decodes to
none raises its error. -/
def Obligations.StepRunsDecodedCommand : Prop :=
  ∀ (s : State) (v : Word) (rest : List HostOp), s.rst = false → s.nextTurn = .host → s.ops = .write 0#7 v :: rest →
    (∀ i, decode v = .command i → step s = exec i { s with turns := s.turns.tail, ops := rest }) ∧
    (∀ why, decode v = .illegal why → step s = .next ({ s with turns := s.turns.tail, ops := rest } : State).issueIllegal)

/-- The step of a state with a row's word placed by `withFetchWord` is the meaning of the instruction `decodeTableWord` reads,
on the state with nothing placed and the reset input released (log entry 1). -/
def Obligations.FetchWordRunsTableWord : Prop :=
  ∀ (s : State) (w : Nat) (i : Instr), decodeTableWord 32 w = some i →
    step (s.withFetchWord 32 w) = exec i { s with rst := false }

/-- Every step answers a next state, never a fault or a refusal. That a recorded error is a next state is the model's choice (log
entry 6: spec/60_exceptions.md R265 and spec/93 U2 to U6 advise a fault, and say that the engine itself goes on), and so is that
an access under `rst` is modelled (log entry 5: spec/93 U8 first advises a refusal). -/
def Obligations.EveryStepHasNext : Prop :=
  ∀ s : State, ∃ t, step s = .next t

/-! ## The commands -/

/-- spec/43_controller.md R202, R203, R208. INIT with `SIZE` 32 or 64 is accepted in every lifecycle state: the write sets `BUSY`
and starts the command, and the engine's completion then leaves exactly R202's effect, every other register as it was. -/
def Obligations.InitCompletes : Prop :=
  ∀ (tables : Tables) (size : Nat) (s : State) (ts : List Turn), size = 32 ∨ size = 64 → s.busy = false → s.rst = false →
    s.turns = .complete :: ts →
    ∃ t, exec (.init size) s = .next t ∧ t.busy = true ∧ t = { s with busy := true, work := t.work } ∧
      stepWith tables t = .next { s with
        outsize := BitVec.ofNat 8 size
        h := Vector.replicate 64 (if size = 32 then 0x01#8 else 0x00#8)
        n := Vector.replicate 8 0#64
        sigma := Vector.replicate 8 0#64
        dout := zero64
        life := .streaming
        work := none
        turns := ts }

/-- R204, R200, R208. UPDATE while STREAMING is accepted, and its completion compresses `DIN`: `g` with the `n` from before, then
512 bits onto `n` and the block onto `sigma`. Every other register is as it was. -/
def Obligations.UpdateCompletes : Prop :=
  ∀ (tables : Tables) (s : State) (ts : List Turn), s.life = .streaming → s.busy = false → s.rst = false →
    s.turns = .complete :: ts →
    ∃ t, exec .update s = .next t ∧ t.busy = true ∧ t = { s with busy := true, work := t.work } ∧
      stepWith tables t = .next { s with
        h := g tables s.h (bytes s.n) s.din
        n := updateN s.n 64
        sigma := updateSigma s.sigma s.din
        work := none
        turns := ts }

/-- R205 to R208, spec/41_compression_g.md R163. FINALIZE while STREAMING is accepted, and its completion runs steps 1 to 6: pad,
compress, the two folds (tweak zero, the accumulators as blocks), the digest. Every other register, `DIN` among them, is as it
was. -/
def Obligations.FinalizeCompletes : Prop :=
  ∀ (tables : Tables) (p : Nat) (s : State) (ts : List Turn), p < 64 → s.life = .streaming → s.busy = false → s.rst = false →
    s.turns = .complete :: ts →
    ∃ (t : State) (h3 h4 h5 : Block) (n3 sigma3 : Limbs),
      h3 = g tables s.h (bytes s.n) (pad s.din p) ∧ n3 = updateN s.n p ∧ sigma3 = updateSigma s.sigma (pad s.din p) ∧
      h4 = g tables h3 zero64 (bytes n3) ∧ h5 = g tables h4 zero64 (bytes sigma3) ∧
      exec (.finalize p) s = .next t ∧ t.busy = true ∧ t = { s with busy := true, work := t.work } ∧
      stepWith tables t = .next { s with
        h := h5
        n := n3
        sigma := sigma3
        dout := digest h5 s.outsize.toNat
        life := .finalized
        work := none
        turns := ts }

/-- spec/20_memory.md R67, R72, spec/70 R285, R286. Whatever the host does while an accepted command runs, and however far the
engine's hidden work has come, the completion leaves the command's effect on the registers and `DIN` as they were when its write
was accepted. -/
def Obligations.CompletionCommitsAcceptedSnapshot : Prop :=
  ∀ (tables : Tables) (i : Instr) (s t : State) (ts rest : List Turn), exec i s = .next t → s.busy = false → t.busy = true →
    s.rst = false → s.turns = ts ++ .complete :: rest → (∀ x ∈ ts, x = .host ∨ x = .work) →
    ∃ u, run tables (ts.length + 1) t = .next u ∧ u.busy = false ∧ u.work = none ∧ u.turns = rest ∧ u.din = s.din ∧
      State.sameResults (s.commit tables i) u

/-- spec/10_state.md R37: the table of lifecycle transitions, each cell with the next `STATE` when the command is accepted and
completed, or the error it raises with the state unchanged. -/
def Obligations.LifecycleTable : Prop :=
  ∀ (tables : Tables) (s : State), s.busy = false → s.err = false →
    (∀ size, size = 32 ∨ size = 64 → (commandThenWait tables (.init size) s).life = .streaming) ∧
    (∀ size, ¬ (size = 32 ∨ size = 64) →
      exec (.init size) s = .next { s with err := true, errcode := some .invalidOutputSize }) ∧
    (s.life = .streaming →
      (commandThenWait tables .update s).life = .streaming ∧
        ∀ p, p < 64 → (commandThenWait tables (.finalize p) s).life = .finalized) ∧
    (s.life ≠ .streaming →
      exec .update s = .next { s with err := true, errcode := some .illegalState } ∧
      ∀ p, p < 64 → exec (.finalize p) s = .next { s with err := true, errcode := some .illegalState }) ∧
    (∀ v why, decode v = .illegal why →
      issueCommand v s = .next { s with err := true, errcode := some .illegalCommand })

/-- spec/43_controller.md R206: the padded block, and `DIN` left as it was. -/
def Obligations.PaddedBlock : Prop :=
  ∀ (s : State) (p : Nat), p < 64 →
    (∀ i, i < p → byteAt (pad s.din p) i = byteAt s.din i) ∧ byteAt (pad s.din p) p = 0x01#8 ∧
    (∀ i, p < i → i < 64 → byteAt (pad s.din p) i = 0x00#8) ∧ ∀ tables, (commitFinalize tables p s).din = s.din

/-- R206, spec/93 U16: FINALIZE ignores `DIN[POS]` to `DIN[63]`. Two runs that differ there end alike but for `DIN` itself. -/
def Obligations.FinalizeIgnoresUnusedBytes : Prop :=
  ∀ (tables : Tables) (p : Nat) (s : State) (d : Block), p < 64 → s.life = .streaming → s.busy = false →
    (∀ i, i < p → byteAt d i = byteAt s.din i) →
    { commandThenWait tables (.finalize p) { s with din := d } with din := s.din } = commandThenWait tables (.finalize p) s

/-- R207: the digest is the last `s` bytes of `h`, and the rest of `DOUT` is zero. -/
def Obligations.DigestIsRightSide : Prop :=
  ∀ h : Block, digest h 64 = h ∧
    (∀ k, k < 32 → byteAt (digest h 32) k = byteAt h (32 + k)) ∧ (∀ k, 32 ≤ k → k < 64 → byteAt (digest h 32) k = 0x00#8)

/-- spec/10_state.md R39: after INIT and `k` accepted UPDATEs, what `n` and `sigma` hold. -/
def Obligations.CountersAfterUpdates : Prop :=
  ∀ (tables : Tables) (size : Nat) (s : State) (blocks : List Block), size = 32 ∨ size = 64 → s.busy = false →
    intOf (updateBlocks tables blocks (commandThenWait tables (.init size) s)).n = (512 * blocks.length) % 2 ^ 512 ∧
    intOf (updateBlocks tables blocks (commandThenWait tables (.init size) s)).sigma =
      ((blocks.map fun b => intOf (words b)).sum) % 2 ^ 512

/-! ## Errors -/

/-- spec/43_controller.md R201, spec/60_exceptions.md R255: a `CMD` write reports the first error that applies and nothing else,
or is accepted. -/
def Obligations.CommandWriteChecksInOrder : Prop :=
  ∀ (v : Word) (s : State),
    issueCommand v s = .next (match firstError v s with
      | some e => if s.err then s else { s with err := true, errcode := some e }
      | none => match decode v with
        | .command i => { s with busy := true, work := some (Work.start i s) }
        | .illegal _ => s) ∧
    (firstError v s = none → ∃ i, decode v = .command i ∧ acceptable i s)

/-- R256: what raising an error does, in every state: the first error is kept, and nothing else changes. -/
def Obligations.RaiseRecordsFirstError : Prop :=
  ∀ (e : Error) (s : State), ∃ t : State, s.raise e = t ∧ t = { s with err := t.err, errcode := t.errcode } ∧ t.err = true ∧
    (s.err = false → t.errcode = some e) ∧ (s.err = true → t.errcode = s.errcode)

/-- R251: INIT with any other size raises INVALID_OUTPUT_SIZE and has no effect. -/
def Obligations.InitRejectsOtherSizes : Prop :=
  ∀ (size : Nat) (s : State), size ≠ 32 → size ≠ 64 → s.busy = false →
    exec (.init size) s = .next (if s.err then s else { s with err := true, errcode := some .invalidOutputSize })

/-- R252: UPDATE and FINALIZE outside STREAMING raise ILLEGAL_STATE and have no effect. -/
def Obligations.CommandsOutsideSessionRejected : Prop :=
  ∀ (p : Nat) (s : State), p < 64 → s.life = .uninit ∨ s.life = .finalized → s.busy = false →
    exec .update s = .next (if s.err then s else { s with err := true, errcode := some .illegalState }) ∧
    exec (.finalize p) s = .next (if s.err then s else { s with err := true, errcode := some .illegalState })

/-- R253: a `CMD` word with a reserved `OP`, or with a bit set outside its command's mask, raises ILLEGAL_COMMAND and has no
effect. -/
def Obligations.IllegalWordsRejected : Prop :=
  ∀ (v : Word) (s : State), s.busy = false →
    ((v &&& 0xF#32 ≠ 0x1#32 ∧ v &&& 0xF#32 ≠ 0x2#32 ∧ v &&& 0xF#32 ≠ 0x3#32) ∨
     (v &&& 0xF#32 = 0x1#32 ∧ v &&& ~~~0x0000FF0F#32 ≠ 0#32) ∨
     (v &&& 0xF#32 = 0x2#32 ∧ v &&& ~~~0x0000000F#32 ≠ 0#32) ∨
     (v &&& 0xF#32 = 0x3#32 ∧ v &&& ~~~0x003F000F#32 ≠ 0#32)) →
    portWrite 0#7 v s = .next (if s.err then s else { s with err := true, errcode := some .illegalCommand })

/-- R254: while `BUSY` = 1, a write to `CMD` or to a `DIN` word raises BUSY_VIOLATION and has no other effect. Nothing else raises
it: in no state does another write, or a read, raise an error, and while `BUSY` = 0 no write leaves BUSY_VIOLATION recorded that
was not recorded before. -/
def Obligations.BusyWritesRejected : Prop :=
  ∀ (s : State) (widx : WordIndex) (v : Word),
    (s.busy = true → widx.toNat = 0 ∨ (16 ≤ widx.toNat ∧ widx.toNat < 32) →
      portWrite widx v s = .next (if s.err then s else { s with err := true, errcode := some .busyViolation })) ∧
    (widx.toNat = 1 → portWrite widx v s = .next (if v.getLsbD 3 then { s with err := false, errcode := none } else s)) ∧
    (widx.toNat ≠ 0 → widx.toNat ≠ 1 → ¬ (16 ≤ widx.toNat ∧ widx.toNat < 32) → portWrite widx v s = .next s) ∧
    ((s.read widx).err = s.err ∧ (s.read widx).errcode = s.errcode) ∧
    (s.busy = false → s.errcode ≠ some .busyViolation →
      ∃ t, portWrite widx v s = .next t ∧ t.errcode ≠ some .busyViolation)

/-- spec/43_controller.md R209: a `STATUS` write with bit 3 set clears the error in every state, during `BUSY` too, and changes
nothing else; with bit 3 clear it changes nothing. -/
def Obligations.StatusWriteClearsError : Prop :=
  ∀ (s : State) (v : Word),
    portWrite 1#7 v s = .next (if v.getLsbD 3 then { s with err := false, errcode := none } else s)

/-- spec/10_state.md R27: an error once recorded stays, with its code, until a `STATUS` write with bit 3 set or a reset. -/
def Obligations.ErrorStaysUntilCleared : Prop :=
  ∀ s t : State, step s = .next t → s.err = true → s.rst = false →
    (t.err = true ∧ t.errcode = s.errcode) ∨
    (∃ (v : Word) (rest : List HostOp), s.nextTurn = .host ∧ s.ops = .write 1#7 v :: rest ∧ v.getLsbD 3 = true) ∨
    s.nextTurn = .reset true

/-! ## The register window -/

/-- R35, R66: each field of the `STATUS` word. -/
def Obligations.StatusFields : Prop :=
  ∀ s : State,
    (statusWord s).extractLsb' 0 2 = (match s.life with | .uninit => 0#2 | .streaming => 1#2 | .finalized => 2#2) ∧
    (statusWord s).getLsbD 2 = s.busy ∧ (statusWord s).getLsbD 3 = s.err ∧
    (statusWord s).extractLsb' 4 4 = (match s.errcode with
      | none => 0#4
      | some .invalidOutputSize => 1#4
      | some .illegalState => 2#4
      | some .illegalCommand => 3#4
      | some .busyViolation => 4#4) ∧
    (statusWord s).extractLsb' 8 8 = s.outsize ∧ (statusWord s).extractLsb' 16 16 = 0#16

/-- spec/20_memory.md R62, R63: word `W_X + j` of the window holds bytes `X[4j]` to `X[4j+3]`, little-endian, for each of the five
arrays. -/
def Obligations.WindowIsLittleEndian : Prop :=
  ∀ (s : State) (x : ArrayName) (j m : Nat), j < 16 → m < 4 →
    (s.windowWord (x.widx j)).extractLsb' (8 * m) 8 =
      byteAt (match x with | .din => s.din | .dout => s.dout | .h => s.h | .n => bytes s.n | .sigma => bytes s.sigma) (4 * j + m)

/-- R66: what a read returns at every word index, and that it changes nothing but the read data (and counts a free value drawn).
That `ANY32` is the free constant of the count of draws is the model's choice (log entry 4), and so is that the read data stand in
`rdata` until the next read (log entry 3). -/
def Obligations.HostReadReturns : Prop :=
  ∀ (s : State) (widx : WordIndex), s.rst = false →
    (widx.toNat = 0 → runOp (.read widx) s = .next { s with rdata := 0#32 }) ∧
    (widx.toNat = 1 → runOp (.read widx) s = .next { s with rdata := statusWord s }) ∧
    (16 ≤ widx.toNat → widx.toNat < 32 → runOp (.read widx) s = .next { s with rdata := wordOf s.din (widx.toNat - 16) }) ∧
    (32 ≤ widx.toNat → widx.toNat < 96 → s.busy = true →
      runOp (.read widx) s = .next { s with rdata := Config.any32 s.draws, draws := s.draws + 1 }) ∧
    (32 ≤ widx.toNat → widx.toNat < 48 → s.busy = false →
      runOp (.read widx) s = .next { s with rdata := wordOf s.dout (widx.toNat - 32) }) ∧
    (48 ≤ widx.toNat → widx.toNat < 64 → s.busy = false →
      runOp (.read widx) s = .next { s with rdata := wordOf s.h (widx.toNat - 48) }) ∧
    (64 ≤ widx.toNat → widx.toNat < 80 → s.busy = false →
      runOp (.read widx) s = .next { s with rdata := wordOf (bytes s.n) (widx.toNat - 64) }) ∧
    (80 ≤ widx.toNat → widx.toNat < 96 → s.busy = false →
      runOp (.read widx) s = .next { s with rdata := wordOf (bytes s.sigma) (widx.toNat - 80) }) ∧
    ((2 ≤ widx.toNat ∧ widx.toNat < 16) ∨ 96 ≤ widx.toNat → runOp (.read widx) s = .next { s with rdata := 0#32 })

/-- R65: what a write does at every word index. -/
def Obligations.HostWriteEffects : Prop :=
  ∀ (s : State) (widx : WordIndex) (v : Word), s.rst = false →
    (widx.toNat = 0 → runOp (.write widx v) s = issueCommand v s) ∧
    (widx.toNat = 1 → runOp (.write widx v) s = .next (if v.getLsbD 3 then { s with err := false, errcode := none } else s)) ∧
    (16 ≤ widx.toNat → widx.toNat < 32 → s.busy = true →
      runOp (.write widx v) s = .next (if s.err then s else { s with err := true, errcode := some .busyViolation })) ∧
    (16 ≤ widx.toNat → widx.toNat < 32 → s.busy = false →
      ∃ d, runOp (.write widx v) s = .next { s with din := d } ∧
        (∀ m, m < 4 → byteAt d (4 * (widx.toNat - 16) + m) = v.extractLsb' (8 * m) 8) ∧
        (∀ i, i < 64 → i / 4 ≠ widx.toNat - 16 → byteAt d i = byteAt s.din i)) ∧
    ((2 ≤ widx.toNat ∧ widx.toNat < 16) ∨ 32 ≤ widx.toNat → runOp (.write widx v) s = .next s)

/-- R28, R65, R66: a `DIN` word written while no command runs reads back as written, and every other word of the window reads as
before. -/
def Obligations.DinReadsBackAsWritten : Prop :=
  ∀ (s t : State) (widx other : WordIndex) (v : Word), 16 ≤ widx.toNat → widx.toNat < 32 → s.busy = false →
    portWrite widx v s = .next t → t.windowWord widx = v ∧ (other ≠ widx → t.windowWord other = s.windowWord other)

/-! ## Bytes, words and the adder -/

/-- spec/00_scope.md R11: `words`, `bytes` and `int`, and that `words` and `bytes` are inverse bijections. -/
def Obligations.WordsBytesInverse : Prop :=
  (∀ (a : Block) (k : Nat), k < 8 →
    (limbAt (words a) k).toNat = ((List.range 8).map fun m => (byteAt a (8 * k + m)).toNat * 2 ^ (8 * m)).sum) ∧
  (∀ (w : Limbs) (k m : Nat), k < 8 → m < 8 →
    (byteAt (bytes w) (8 * k + m)).toNat = (limbAt w k).toNat / 2 ^ (8 * m) % 256) ∧
  (∀ w : Limbs, intOf w = ((List.range 8).map fun k => (limbAt w k).toNat * 2 ^ (64 * k)).sum ∧ intOf w < 2 ^ 512) ∧
  (∀ a : Block, bytes (words a) = a) ∧ (∀ w : Limbs, words (bytes w) = w)

/-- spec/42_adder.md R180: the two results of `adc` are the low and high halves of the exact sum. -/
def Obligations.AdcIsExact : Prop :=
  ∀ limb addend carry : Limb,
    (adc limb addend carry).limb.toNat + 2 ^ 64 * (adc limb addend carry).carry.toNat =
      limb.toNat + addend.toNat + carry.toNat

/-- R184: the carry is 0 or 1 after every `adc` of a ripple. -/
def Obligations.RippleCarryIsOneBit : Prop :=
  ∀ (x y : Limbs) (k : Nat), k ≤ 8 → carryInto x y k = 0#64 ∨ carryInto x y k = 1#64

/-- R183: both updates are additions modulo `2^512`. -/
def Obligations.UpdatesAddModulo : Prop :=
  (∀ (n : Limbs) (len : Nat), len ≤ 64 → intOf (updateN n len) = (intOf n + 8 * len) % 2 ^ 512) ∧
  (∀ (sigma : Limbs) (block : Block), intOf (updateSigma sigma block) = (intOf sigma + intOf (words block)) % 2 ^ 512)

/-! ## LPS and g -/

/-- spec/40_lps.md R120: `PI` is a permutation of the bytes, with the examples there. -/
def Obligations.PiIsPermutation : Prop :=
  (∀ a b : Byte, pi a = pi b → a = b) ∧ (∀ c : Byte, ∃ b, pi b = c) ∧ pi 0x00#8 = 0xFC#8 ∧ pi 0xA5#8 = 0x00#8

/-- R121: `TAU`, its own inverse, and the transposition it makes of the bytes. -/
def Obligations.TauTransposes : Prop :=
  (∀ i, i < 64 → tau i = 8 * (i % 8) + i / 8 ∧ tau i < 64 ∧ tau (tau i) = i) ∧
  (∀ (x : Block) (i : Nat), i < 64 → byteAt (stepP x) i = byteAt x (tau i)) ∧
  (∀ (x : Block) (k m : Nat), k < 8 → m < 8 → byteAt (stepP x) (8 * k + m) = byteAt x (8 * m + k))

/-- R123: `l` is linear over GF(2), and bit `63 - i` alone gives `A[i]`. -/
def Obligations.LinearMapIsLinear : Prop :=
  (∀ a b : Limb, linear (a ^^^ b) = linear a ^^^ linear b) ∧ linear 0#64 = 0#64 ∧
  (∀ i, i < 64 → linear (1#64 <<< (63 - i)) = A i)

/-- R125: each entry of the default table is `l` of the substituted byte in its lane. -/
def Obligations.TableEntryIsLinearImage : Prop :=
  ∀ (j : Nat) (b : Byte), j < 8 → lpsTable j b = linear ((pi b).setWidth 64 <<< (8 * j))

/-- R126, corner case: LPS depends only on the exclusive-or of its arguments. -/
def Obligations.LpsDependsOnXorOnly : Prop :=
  ∀ tables : Tables,
    (∀ x t y u : Block, xorBlock x t = xorBlock y u → lps tables x t = lps tables y u) ∧
    (∀ t : Block, lps tables t t = lps tables zero64 zero64) ∧ (∀ x t : Block, lps tables x t = lps tables t x)

/-- R127: with the default tables, the fused form equals the composed form. -/
def Obligations.FusedLpsEqualsComposed : Prop :=
  ∀ s t : Block, lps standardTables s t = stepL (stepP (stepS (xorBlock s t)))

/-- R129: with the default tables, for a fixed tweak, LPS is a bijection on the state. -/
def Obligations.LpsIsBijection : Prop :=
  ∀ t : Block, (∀ x y : Block, lps standardTables x t = lps standardTables y t → x = y) ∧
    (∀ z : Block, ∃ x, lps standardTables x t = z)

/-- spec/41_compression_g.md R161: `g` is the feed-forward over the cipher whose round keys and data are given by their own
recursions. -/
def Obligations.CompressionIsCipherWithFeedForward : Prop :=
  ∀ (tables : Tables) (h tweak block : Block),
    roundKey tables h tweak 0 = lps tables h tweak ∧ roundData tables h tweak block 0 = block ∧
    (∀ r, r < 12 → roundKey tables h tweak (r + 1) = lps tables (roundKey tables h tweak r) (tables.C r) ∧
      roundData tables h tweak block (r + 1) = lps tables (roundData tables h tweak block r) (roundKey tables h tweak r)) ∧
    g tables h tweak block =
      xorBlock (xorBlock (xorBlock (roundData tables h tweak block 12) (roundKey tables h tweak 12)) block) h

/-! ## The working state -/

/-- spec/10_state.md R32, spec/43_controller.md R208, spec/70 R286: the engine's hidden work on a command comes to an end, after at
most 44 moves, with the values of `h`, `n` and `sigma` that completion commits. The grain of the moves is the model's choice (log
entry 7). -/
def Obligations.SequencerReachesCommittedEffect : Prop :=
  ∀ (tables : Tables) (i : Instr) (s : State) (k : Nat), 44 ≤ k →
    ∃ w, w = (Work.start i s).advanceBy tables k ∧ w.stage = .done ∧ w.h = (s.commit tables i).h ∧
      w.n = (s.commit tables i).n ∧ w.sigma = (s.commit tables i).sigma

/-- spec/41_compression_g.md R162: from the seed of any `g` call, the next 14 moves are its seed, 12 rounds and feed-forward, with
exactly 25 LPS operations: one for the seed, two in each round. The moves are the grain the model chose and the counts are its own
tally of each move, `Stage.lpsOps` (log entry 7). -/
def Obligations.EachCompressionMakes25Lps : Prop :=
  ∀ (tables : Tables) (w : Work) (c : GCall), w.stage = .seed c →
    w.opsOver tables Stage.lpsOps 1 = 1 ∧
    (∀ r, r < 12 → (w.advanceBy tables (1 + r)).stage = .round c ∧ (w.advanceBy tables (1 + r)).round.val = r ∧
      (w.advanceBy tables (1 + r)).opsOver tables Stage.lpsOps 1 = 2) ∧
    (w.advanceBy tables 13).stage = .feed c ∧ (w.advanceBy tables 14).stage = afterFeed c ∧
    w.opsOver tables Stage.lpsOps 14 = 25

/-- spec/70_reset_and_hazards.md R287: the operations of each whole command. They are sums of the model's own tallies of each move
(`Stage.gCalls`, `Stage.lpsOps`, `Stage.adcOps`) over the moves whose grain it chose (log entry 7). -/
def Obligations.CommandOperationCounts : Prop :=
  ∀ (tables : Tables) (s : State) (size p k : Nat), 44 ≤ k →
    ((Work.start (.init size) s).opsOver tables Stage.gCalls k = 0 ∧
      (Work.start (.init size) s).opsOver tables Stage.lpsOps k = 0 ∧
      (Work.start (.init size) s).opsOver tables Stage.adcOps k = 0) ∧
    ((Work.start .update s).opsOver tables Stage.gCalls k = 1 ∧ (Work.start .update s).opsOver tables Stage.lpsOps k = 25 ∧
      (Work.start .update s).opsOver tables Stage.adcOps k = 16) ∧
    ((Work.start (.finalize p) s).opsOver tables Stage.gCalls k = 3 ∧
      (Work.start (.finalize p) s).opsOver tables Stage.lpsOps k = 75 ∧
      (Work.start (.finalize p) s).opsOver tables Stage.adcOps k = 16)

/-! ## Invariants and whole-machine rules -/

/-- The state after reset meets the three invariants. -/
def Obligations.ResetMeetsInvariants : Prop :=
  State.reset.Inv ∧ (∀ tables, State.reset.WorkInv tables) ∧ State.reset.SessionData

/-- spec/10_state.md R36 (with R26, R27, R201, R280): every step keeps the control invariant. -/
def Obligations.StepKeepsControlInvariant : Prop :=
  ∀ s t : State, s.Inv → step s = .next t → t.Inv

/-- R32, R72: every step keeps the working state of a running command in step with the registers it was accepted on. The grain of
the moves is the model's choice (log entry 7). -/
def Obligations.StepKeepsWorkingState : Prop :=
  ∀ (tables : Tables) (s t : State), s.Inv → s.WorkInv tables → stepWith tables s = .next t → t.WorkInv tables

/-- R22, R29, R38, R202, R205, R207: every step keeps what each lifecycle state says of `n`, `DOUT` and the digest. -/
def Obligations.StepKeepsSessionData : Prop :=
  ∀ s t : State, s.Inv → s.SessionData → step s = .next t → t.SessionData

/-- R21 to R25, R29: only a completion or a reset changes `h`, `n`, `sigma`, `OUTSIZE`, `STATE` or `DOUT`; no access of the host
and no hidden work does. -/
def Obligations.OnlyCompletionWritesResults : Prop :=
  ∀ s t : State, step s = .next t → s.rst = false → s.nextTurn ≠ .complete → s.nextTurn ≠ .reset true →
    State.sameResults s t

/-- R28: only the host's writes to the `DIN` window, and reset, change `DIN`. -/
def Obligations.OnlyHostWritesDin : Prop :=
  ∀ s t : State, step s = .next t → s.rst = false → s.nextTurn ≠ .reset true → t.din ≠ s.din →
    s.nextTurn = .host ∧ s.busy = false ∧
      ∃ (widx : WordIndex) (v : Word) (rest : List HostOp), s.ops = .write widx v :: rest ∧ 16 ≤ widx.toNat ∧ widx.toNat < 32

/-- R26: a step sets `BUSY` only by an accepted `CMD` write, and clears it only by a completion or a reset. -/
def Obligations.BusyFollowsCommands : Prop :=
  ∀ s t : State, step s = .next t → s.rst = false →
    (s.busy = false → t.busy = true → s.nextTurn = .host ∧
      ∃ (v : Word) (rest : List HostOp), s.ops = .write 0#7 v :: rest ∧ firstError v s = none) ∧
    (s.busy = true → t.busy = false → s.nextTurn = .complete ∨ s.nextTurn = .reset true)

/-- spec/20_memory.md R66, R67, R32: while `BUSY` = 1, a host access cannot tell two engines apart that differ only in what the
running command works on: the data read, and everything else outside the command, stay equal. -/
def Obligations.BusyHidesRunningCommand : Prop :=
  ∀ s t : State, s.busy = true → s.SameOutsideCommand t → s.nextTurn = .host → s.rst = false →
    ∃ s' t', step s = .next s' ∧ step t = .next t' ∧ s'.SameOutsideCommand t' ∧ s'.rdata = t'.rdata

/-- spec/70_reset_and_hazards.md R280, R281, spec/10_state.md R38: asserting `rst` and releasing it put every register at its
reset value and abandon a running command; while it is asserted every access leaves the registers there, and a read returns a free
value. That accesses under `rst` are modelled and that each step holds the registers there is log entry 5 (spec/93 U8 first
advises a refusal), and that the free value is the constant of the count of draws is log entry 4: the model's choices. -/
def Obligations.ResetSetsEveryRegister : Prop :=
  (∀ (s : State) (ts : List Turn), s.turns = .reset true :: ts →
    ∃ t, step s = .next t ∧ t.AtResetValues ∧ t.rst = true ∧ t.turns = ts ∧ t.ops = s.ops) ∧
  (∀ (s : State) (ts : List Turn), s.rst = true → s.turns = .reset false :: ts →
    ∃ t, step s = .next t ∧ t.AtResetValues ∧ t.rst = false ∧ t.turns = ts ∧ t.ops = s.ops) ∧
  (∀ s : State, s.rst = true → s.nextTurn ≠ .reset false → ∃ t, step s = .next t ∧ t.AtResetValues ∧ t.rst = true) ∧
  (∀ (s : State) (widx : WordIndex) (rest : List HostOp), s.rst = true → s.nextTurn = .host → s.ops = .read widx :: rest →
    ∃ t, step s = .next t ∧ t.rdata = Config.any32 s.draws ∧ t.draws = s.draws + 1 ∧ t.ops = rest)

/-- spec/30_encoding.md R97, spec/70 R285: `WAIT` ends. With the reset input not asserted, the polling loop is over after the
turns already chosen and at most two more, the last read having shown `BUSY` = 0. The two more are the model's fair order (log
entry 2). -/
def Obligations.WaitTerminates : Prop :=
  ∀ (tables : Tables) (s : State) (rest : List HostOp), s.Inv → s.rst = false → .reset true ∉ s.turns →
    s.ops = .wait :: rest →
    ∃ (k : Nat) (t : State), k ≤ s.turns.length + 2 ∧ run tables k s = .next t ∧ t.ops = rest ∧ t.busy = false ∧ t.rdata = statusWord t

/-- R265, spec/93 U2 to U6 (log entry 6): the stricter reading stops exactly where an error is recorded, and else goes on as the
machine does. -/
def Obligations.StrictStepStopsOnError : Prop :=
  ∀ s t : State, s.Inv → step s = .next t →
    (t.err = false → strictStep s = .next t) ∧
    (t.err = true → ∃ e, t.errcode = some e ∧ strictStep s = .fault e.asFault)

/-! ## The platform -/

/-- spec/20_memory.md R61: a whole-word access at `BASE + 4·widx` is the port's access of word `widx` at that engine. While its
`rst` is asserted (spec/70 R280) the engine's registers are at their reset values, a write has no effect and a read returns a free
value: that such an access is modelled, and that the value is the constant of the engine's own count of draws, are the model's
choices (log entries 5 and 4). -/
def Obligations.BusAddressReachesWord : Prop :=
  ∀ (p : Platform) (j : Nat) (e : Placed) (widx : WordIndex), p.wf = true → p[j]? = some e →
    (e.engine.rst = false → ∀ data : Option Word,
      ∃ s, runOp (match data with | some v => .write widx v | none => .read widx) e.engine = .next s ∧
        p.access { addr := e.base + 4 * widx.toNat, size := 4, data := data } = .next (p.set j { e with engine := s })) ∧
    (e.engine.rst = true → ∀ v : Word,
      p.access { addr := e.base + 4 * widx.toNat, size := 4, data := some v } =
        .next (p.set j { e with engine := e.engine.resetRegisters })) ∧
    (e.engine.rst = true →
      p.access { addr := e.base + 4 * widx.toNat, size := 4, data := none } =
        .next (p.set j { e with engine :=
          { e.engine.resetRegisters with rdata := Config.any32 e.engine.draws, draws := e.engine.draws + 1 } }))

/-- R64, spec/93 U7: an access that is not one whole aligned word, or lies in no engine's window, is refused. -/
def Obligations.BusRefusesOtherAccesses : Prop :=
  ∀ (p : Platform) (a : BusAccess),
    (a.size ≠ 4 → p.access a = .refused .notAWord) ∧
    (a.size = 4 → a.addr % 4 ≠ 0 → p.access a = .refused .notAligned) ∧
    (a.size = 4 → a.addr % 4 = 0 → (∀ e ∈ p, ¬ (e.base ≤ a.addr ∧ a.addr < e.base + 0x200)) →
      p.access a = .refused .outsideWindows)

/-- R74, spec/60_exceptions.md R262: a bus access or a step of one engine leaves every other engine as it was, and moves no
window. -/
def Obligations.EnginesAreIndependent : Prop :=
  (∀ (tables : Tables) (p q : Platform) (k : Nat), p.stepAt tables k = .next q →
    q.map Placed.block = p.map Placed.block ∧ ∀ j, j ≠ k → q[j]? = p[j]?) ∧
  (∀ (p q : Platform) (a : BusAccess), p.access a = .next q →
    q.map Placed.block = p.map Placed.block ∧
    ∀ (j : Nat) (e : Placed), p[j]? = some e → ¬ (e.base ≤ a.addr ∧ a.addr < e.base + 0x200) → q[j]? = some e)

/-! ## The tables -/

/-- spec/00_scope.md R8, spec/10_state.md R33: the constant tables enter a step through the datapath alone. An engine built with any
tables steps as the machine does but for `h`, `DOUT` and what a running command works on, and has a command running after the
step exactly when the machine has. -/
def Obligations.TablesEnterOnlyThroughDatapath : Prop :=
  ∀ (tables : Tables) (s t : State), step s = .next t →
    ∃ u h dout work, stepWith tables s = .next u ∧ u = { t with h := h, dout := dout, work := work } ∧
      u.work.isSome = t.work.isSome
end

