-- ==== Sys2Proof/Laws/Bytes.lean ====
section
/-! SUPPORT. One equation per array operation: what stands at each index. -/

namespace Sys2Proof.Machine

@[simp] theorem byteAt_zero64 (i : Nat) : byteAt zero64 i = 0x00#8 := by simp [byteAt, zero64]

theorem byteAt_eq (x : Block) {i : Nat} (h : i < 64) : byteAt x i = x[i] := by simp [byteAt, h]

theorem limbAt_eq (w : Limbs) {k : Nat} (h : k < 8) : limbAt w k = w[k] := by simp [limbAt, h]

/-- Two arrays with the same bytes are equal. -/
theorem block_ext {x y : Block} (h : ∀ i, i < 64 → byteAt x i = byteAt y i) : x = y := by
  ext i hi : 1
  simpa [byteAt, hi] using h i hi

/-- Two limb vectors with the same limbs are equal. -/
theorem limbs_ext {x y : Limbs} (h : ∀ k, k < 8 → limbAt x k = limbAt y k) : x = y := by
  ext k hk : 1
  simpa [limbAt, hk] using h k hk

theorem byteAt_xorBlock (x y : Block) (i : Nat) : byteAt (xorBlock x y) i = byteAt x i ^^^ byteAt y i := by
  by_cases h : i < 64 <;> simp [byteAt, xorBlock, h]

theorem byteAt_bytes (w : Limbs) {i : Nat} (h : i < 64) :
    byteAt (bytes w) i = (limbAt w (i / 8) >>> (8 * (i % 8))).setWidth 8 := by
  simp [byteAt, bytes, h]

theorem limbAt_words (a : Block) {k : Nat} (h : k < 8) :
    limbAt (words a) k = sumTo 8 fun m => (byteAt a (8 * k + m)).setWidth 64 <<< (8 * m) := by
  simp [limbAt, words, h]

theorem byteAt_putWord (x : Block) (j : Nat) (v : Word) {i : Nat} (h : i < 64) :
    byteAt (putWord x j v) i = if i / 4 = j then v.extractLsb' (8 * (i % 4)) 8 else byteAt x i := by
  simp [byteAt, putWord, h]

theorem byteAt_pad (d : Block) (p : Nat) {i : Nat} (h : i < 64) :
    byteAt (pad d p) i = if i < p then byteAt d i else if i = p then 0x01#8 else 0x00#8 := by
  simp [byteAt, pad, h]

theorem byteAt_digest (x : Block) (s : Nat) {k : Nat} (h : k < 64) :
    byteAt (digest x s) k = if k < s then byteAt x (64 - s + k) else 0x00#8 := by
  simp [byteAt, digest, h]

theorem byteAt_stepS (x : Block) {i : Nat} (h : i < 64) : byteAt (stepS x) i = pi (byteAt x i) := by
  simp [byteAt, stepS, h]

theorem byteAt_stepP (x : Block) {i : Nat} (h : i < 64) : byteAt (stepP x) i = byteAt x (tau i) := by
  simp [byteAt, stepP, h]

theorem limbAt_map (f : Limb → Limb) (w : Limbs) {k : Nat} (h : k < 8) : limbAt (w.map f) k = f (limbAt w k) := by
  simp [limbAt, h]

@[simp] theorem standardTables_T : standardTables.T = lpsTable := rfl

@[simp] theorem standardTables_C : standardTables.C = C := rfl

/-- Output word `k` of LPS, before serialisation (spec/40_lps.md R126). -/
theorem lps_eq (tb : Tables) (s t : Block) :
    lps tb s t = bytes (Vector.ofFn fun k => lpsWord tb (xorBlock s t) k.val) := by
  unfold lps; rfl

@[simp] theorem xorTo_zero (f : Nat → Limb) : xorTo 0 f = 0#64 := rfl

@[simp] theorem xorTo_succ (k : Nat) (f : Nat → Limb) : xorTo (k + 1) f = xorTo k f ^^^ f k := rfl

@[simp] theorem sumTo_zero (f : Nat → Limb) : sumTo 0 f = 0#64 := rfl

@[simp] theorem sumTo_succ (k : Nat) (f : Nat → Limb) : sumTo (k + 1) f = sumTo k f + f k := rfl

/-- `xorTo` depends only on the values it reads. -/
theorem xorTo_congr {n : Nat} {f f' : Nat → Limb} (h : ∀ i, i < n → f i = f' i) : xorTo n f = xorTo n f' := by
  induction n with
  | zero => rfl
  | succ k ih => rw [xorTo_succ, xorTo_succ, ih fun i hi => h i (by omega), h k (by omega)]

/-- The exclusive-or of two sequences, term by term. -/
theorem xorTo_xor (n : Nat) (f f' : Nat → Limb) : xorTo n (fun i => f i ^^^ f' i) = xorTo n f ^^^ xorTo n f' := by
  induction n with
  | zero => simp
  | succ k ih =>
    rw [xorTo_succ, xorTo_succ, xorTo_succ, ih, BitVec.xor_assoc, BitVec.xor_assoc, ← BitVec.xor_assoc (xorTo k f'),
      BitVec.xor_comm (xorTo k f') (f k), BitVec.xor_assoc]

end Sys2Proof.Machine
end

