-- ==== Sys2Proof/Laws/Decode.lean ====
section
/-! SUPPORT. What a word that decodes to a command says of the command. -/

namespace Sys2Proof

theorem sizeField_lt (v : Word) : sizeField v < 256 := (v.extractLsb' 8 8).isLt

theorem posField_lt (v : Word) : posField v < 64 := (v.extractLsb' 16 6).isLt

/-- The three ways a word decodes to a command, with everything `decode` checks of it. -/
theorem decode_command {v : Word} {i : Instr} (h : decode v = .command i) :
    (opField v = 0x1#4 ∧ v &&& ~~~allowedInit = 0#32 ∧ i = .init (sizeField v)) ∨
    (opField v = 0x2#4 ∧ v &&& ~~~allowedUpdate = 0#32 ∧ i = .update) ∨
    (opField v = 0x3#4 ∧ v &&& ~~~allowedFinalize = 0#32 ∧ i = .finalize (posField v)) := by
  unfold decode at h
  split at h
  · split at h
    · cases h; exact .inl ⟨‹_›, ‹_›, rfl⟩
    · cases h
  · split at h
    · split at h
      · cases h; exact .inr (.inl ⟨‹_›, ‹_›, rfl⟩)
      · cases h
    · split at h
      · split at h
        · cases h; exact .inr (.inr ⟨‹_›, ‹_›, rfl⟩)
        · cases h
      · cases h

/-- `POS` has 6 bits. -/
theorem decode_finalize_lt {v : Word} {p : Nat} (h : decode v = .command (.finalize p)) : p < 64 := by
  obtain ⟨-, -, h⟩ | ⟨-, -, h⟩ | ⟨-, -, h⟩ := decode_command h
  · cases h
  · cases h
  · cases h; exact posField_lt v

end Sys2Proof
end

