-- ==== Sys2Proof/Laws/Sequencer.lean ====
section
/-! SUPPORT. What each move of the sequencer does, and what a whole `g` call of it does. -/

namespace Sys2Proof.Machine

variable (tb : Tables)

@[simp] theorem advanceBy_zero (w : Work) : w.advanceBy tb 0 = w := rfl

theorem advanceBy_succ (w : Work) (k : Nat) : w.advanceBy tb (k + 1) = (w.advanceBy tb k).advance tb := rfl

theorem advanceBy_add (w : Work) (a b : Nat) : w.advanceBy tb (a + b) = (w.advanceBy tb a).advanceBy tb b := by
  induction b with
  | zero => rfl
  | succ b ih => rw [← Nat.add_assoc, advanceBy_succ, ih, advanceBy_succ]

/-- The command never changes while it runs. -/
@[simp] theorem advance_cmd (w : Work) : (w.advance tb).cmd = w.cmd := by
  unfold Work.advance; split <;> rfl

@[simp] theorem advanceBy_cmd (w : Work) (k : Nat) : (w.advanceBy tb k).cmd = w.cmd := by
  induction k with
  | zero => rfl
  | succ k ih => rw [advanceBy_succ, advance_cmd, ih]

/-- The block a command compresses never changes while it runs (spec/20_memory.md R72). -/
@[simp] theorem advance_pb (w : Work) : (w.advance tb).pb = w.pb := by
  unfold Work.advance; split <;> rfl

@[simp] theorem start_cmd (i : Instr) (s : State) : (Work.start i s).cmd = i := by cases i <;> rfl

@[simp] theorem start_pb (i : Instr) (s : State) : (Work.start i s).pb = blockOperand i s := by cases i <;> rfl

/-- The start of a command reads only the datapath registers and `DIN`. -/
theorem start_congr (i : Instr) {s t : State} (h : t.h = s.h) (n : t.n = s.n) (sigma : t.sigma = s.sigma)
    (din : t.din = s.din) : Work.start i t = Work.start i s := by
  cases i <;> simp [Work.start, blockOperand, h, n, sigma, din]

/-- Once nothing is left to work out, nothing changes any more. -/
theorem advance_of_done {w : Work} (h : w.stage = .done) : w.advance tb = w := by
  unfold Work.advance; rw [h]

theorem advanceBy_of_done {w : Work} (h : w.stage = .done) (k : Nat) : w.advanceBy tb k = w := by
  induction k with
  | zero => rfl
  | succ k ih => rw [advanceBy_succ, ih, advance_of_done tb h]

theorem opsOver_add (kind : Stage → Nat) (w : Work) (a b : Nat) :
    w.opsOver tb kind (a + b) = w.opsOver tb kind a + (w.advanceBy tb a).opsOver tb kind b := by
  induction a generalizing w with
  | zero => simp [Work.opsOver]
  | succ a ih =>
    have shift : w.advanceBy tb (a + 1) = (w.advance tb).advanceBy tb a := by
      rw [Nat.add_comm, advanceBy_add]; rfl
    rw [Nat.add_right_comm, shift]
    simp only [Work.opsOver, ih, Nat.add_assoc]

/-- The fourteen moves of one `g` call (seed, twelve rounds, feed-forward) leave exactly what `g` computes. -/
theorem advanceBy_gCall {w : Work} {c : GCall} (h : w.stage = .seed c) :
    w.advanceBy tb 14 =
      { w with
        stage := afterFeed c
        round := 0
        key := (cipherRounds tb 12 (cipherSeed tb w.h (w.tweakOf c) (w.blockOf c))).key
        data := (cipherRounds tb 12 (cipherSeed tb w.h (w.tweakOf c) (w.blockOf c))).data
        h := g tb w.h (w.tweakOf c) (w.blockOf c) } := by
  obtain ⟨cmd, stage, round, key, data, pb, h0, n, sigma⟩ := w
  simp only at h
  subst h
  cases c <;>
    simp [Work.advanceBy, Work.advance, cipherRounds, cipherRound, cipherSeed, Work.blockOf, Work.tweakOf, g]

end Sys2Proof.Machine
end

