-- ==== Sys2Proof/Laws/State.lean ====
section
/-! SUPPORT. One lemma per field per update of the state: what each named operation leaves in each field. -/

namespace Sys2Proof.Machine

/-! ### Raising an error -/

@[simp] theorem raise_h (e : Error) (s : State) : (s.raise e).h = s.h := by
  unfold State.raise; split <;> rfl
@[simp] theorem raise_n (e : Error) (s : State) : (s.raise e).n = s.n := by
  unfold State.raise; split <;> rfl
@[simp] theorem raise_sigma (e : Error) (s : State) : (s.raise e).sigma = s.sigma := by
  unfold State.raise; split <;> rfl
@[simp] theorem raise_outsize (e : Error) (s : State) : (s.raise e).outsize = s.outsize := by
  unfold State.raise; split <;> rfl
@[simp] theorem raise_life (e : Error) (s : State) : (s.raise e).life = s.life := by
  unfold State.raise; split <;> rfl
@[simp] theorem raise_busy (e : Error) (s : State) : (s.raise e).busy = s.busy := by
  unfold State.raise; split <;> rfl
@[simp] theorem raise_din (e : Error) (s : State) : (s.raise e).din = s.din := by
  unfold State.raise; split <;> rfl
@[simp] theorem raise_dout (e : Error) (s : State) : (s.raise e).dout = s.dout := by
  unfold State.raise; split <;> rfl
@[simp] theorem raise_work (e : Error) (s : State) : (s.raise e).work = s.work := by
  unfold State.raise; split <;> rfl
@[simp] theorem raise_rst (e : Error) (s : State) : (s.raise e).rst = s.rst := by
  unfold State.raise; split <;> rfl
@[simp] theorem raise_rdata (e : Error) (s : State) : (s.raise e).rdata = s.rdata := by
  unfold State.raise; split <;> rfl
@[simp] theorem raise_ops (e : Error) (s : State) : (s.raise e).ops = s.ops := by
  unfold State.raise; split <;> rfl
@[simp] theorem raise_turns (e : Error) (s : State) : (s.raise e).turns = s.turns := by
  unfold State.raise; split <;> rfl
@[simp] theorem raise_draws (e : Error) (s : State) : (s.raise e).draws = s.draws := by
  unfold State.raise; split <;> rfl

/-! ### Clearing it -/

@[simp] theorem clearError_h (s : State) : (s.clearError).h = s.h := rfl
@[simp] theorem clearError_n (s : State) : (s.clearError).n = s.n := rfl
@[simp] theorem clearError_sigma (s : State) : (s.clearError).sigma = s.sigma := rfl
@[simp] theorem clearError_outsize (s : State) : (s.clearError).outsize = s.outsize := rfl
@[simp] theorem clearError_life (s : State) : (s.clearError).life = s.life := rfl
@[simp] theorem clearError_busy (s : State) : (s.clearError).busy = s.busy := rfl
@[simp] theorem clearError_err (s : State) : (s.clearError).err = false := rfl
@[simp] theorem clearError_errcode (s : State) : (s.clearError).errcode = none := rfl
@[simp] theorem clearError_din (s : State) : (s.clearError).din = s.din := rfl
@[simp] theorem clearError_dout (s : State) : (s.clearError).dout = s.dout := rfl
@[simp] theorem clearError_work (s : State) : (s.clearError).work = s.work := rfl
@[simp] theorem clearError_rst (s : State) : (s.clearError).rst = s.rst := rfl
@[simp] theorem clearError_rdata (s : State) : (s.clearError).rdata = s.rdata := rfl
@[simp] theorem clearError_ops (s : State) : (s.clearError).ops = s.ops := rfl
@[simp] theorem clearError_turns (s : State) : (s.clearError).turns = s.turns := rfl
@[simp] theorem clearError_draws (s : State) : (s.clearError).draws = s.draws := rfl

/-! ### Accepting a command -/

@[simp] theorem accept_h (i : Instr) (s : State) : (s.accept i).h = s.h := rfl
@[simp] theorem accept_n (i : Instr) (s : State) : (s.accept i).n = s.n := rfl
@[simp] theorem accept_sigma (i : Instr) (s : State) : (s.accept i).sigma = s.sigma := rfl
@[simp] theorem accept_outsize (i : Instr) (s : State) : (s.accept i).outsize = s.outsize := rfl
@[simp] theorem accept_life (i : Instr) (s : State) : (s.accept i).life = s.life := rfl
@[simp] theorem accept_busy (i : Instr) (s : State) : (s.accept i).busy = true := rfl
@[simp] theorem accept_err (i : Instr) (s : State) : (s.accept i).err = s.err := rfl
@[simp] theorem accept_errcode (i : Instr) (s : State) : (s.accept i).errcode = s.errcode := rfl
@[simp] theorem accept_din (i : Instr) (s : State) : (s.accept i).din = s.din := rfl
@[simp] theorem accept_dout (i : Instr) (s : State) : (s.accept i).dout = s.dout := rfl
@[simp] theorem accept_work (i : Instr) (s : State) : (s.accept i).work = some (Work.start i s) := rfl
@[simp] theorem accept_rst (i : Instr) (s : State) : (s.accept i).rst = s.rst := rfl
@[simp] theorem accept_rdata (i : Instr) (s : State) : (s.accept i).rdata = s.rdata := rfl
@[simp] theorem accept_ops (i : Instr) (s : State) : (s.accept i).ops = s.ops := rfl
@[simp] theorem accept_turns (i : Instr) (s : State) : (s.accept i).turns = s.turns := rfl
@[simp] theorem accept_draws (i : Instr) (s : State) : (s.accept i).draws = s.draws := rfl

/-! ### A STATUS write -/

@[simp] theorem writeStatus_h (v : Word) (s : State) : (s.writeStatus v).h = s.h := by
  unfold State.writeStatus; split <;> rfl
@[simp] theorem writeStatus_n (v : Word) (s : State) : (s.writeStatus v).n = s.n := by
  unfold State.writeStatus; split <;> rfl
@[simp] theorem writeStatus_sigma (v : Word) (s : State) : (s.writeStatus v).sigma = s.sigma := by
  unfold State.writeStatus; split <;> rfl
@[simp] theorem writeStatus_outsize (v : Word) (s : State) : (s.writeStatus v).outsize = s.outsize := by
  unfold State.writeStatus; split <;> rfl
@[simp] theorem writeStatus_life (v : Word) (s : State) : (s.writeStatus v).life = s.life := by
  unfold State.writeStatus; split <;> rfl
@[simp] theorem writeStatus_busy (v : Word) (s : State) : (s.writeStatus v).busy = s.busy := by
  unfold State.writeStatus; split <;> rfl
@[simp] theorem writeStatus_din (v : Word) (s : State) : (s.writeStatus v).din = s.din := by
  unfold State.writeStatus; split <;> rfl
@[simp] theorem writeStatus_dout (v : Word) (s : State) : (s.writeStatus v).dout = s.dout := by
  unfold State.writeStatus; split <;> rfl
@[simp] theorem writeStatus_work (v : Word) (s : State) : (s.writeStatus v).work = s.work := by
  unfold State.writeStatus; split <;> rfl
@[simp] theorem writeStatus_rst (v : Word) (s : State) : (s.writeStatus v).rst = s.rst := by
  unfold State.writeStatus; split <;> rfl
@[simp] theorem writeStatus_rdata (v : Word) (s : State) : (s.writeStatus v).rdata = s.rdata := by
  unfold State.writeStatus; split <;> rfl
@[simp] theorem writeStatus_ops (v : Word) (s : State) : (s.writeStatus v).ops = s.ops := by
  unfold State.writeStatus; split <;> rfl
@[simp] theorem writeStatus_turns (v : Word) (s : State) : (s.writeStatus v).turns = s.turns := by
  unfold State.writeStatus; split <;> rfl
@[simp] theorem writeStatus_draws (v : Word) (s : State) : (s.writeStatus v).draws = s.draws := by
  unfold State.writeStatus; split <;> rfl

/-! ### A DIN write -/

@[simp] theorem writeDin_h (j : Nat) (v : Word) (s : State) : (s.writeDin j v).h = s.h := by
  unfold State.writeDin; split <;> simp
@[simp] theorem writeDin_n (j : Nat) (v : Word) (s : State) : (s.writeDin j v).n = s.n := by
  unfold State.writeDin; split <;> simp
@[simp] theorem writeDin_sigma (j : Nat) (v : Word) (s : State) : (s.writeDin j v).sigma = s.sigma := by
  unfold State.writeDin; split <;> simp
@[simp] theorem writeDin_outsize (j : Nat) (v : Word) (s : State) : (s.writeDin j v).outsize = s.outsize := by
  unfold State.writeDin; split <;> simp
@[simp] theorem writeDin_life (j : Nat) (v : Word) (s : State) : (s.writeDin j v).life = s.life := by
  unfold State.writeDin; split <;> simp
@[simp] theorem writeDin_busy (j : Nat) (v : Word) (s : State) : (s.writeDin j v).busy = s.busy := by
  unfold State.writeDin; split <;> simp
@[simp] theorem writeDin_dout (j : Nat) (v : Word) (s : State) : (s.writeDin j v).dout = s.dout := by
  unfold State.writeDin; split <;> simp
@[simp] theorem writeDin_work (j : Nat) (v : Word) (s : State) : (s.writeDin j v).work = s.work := by
  unfold State.writeDin; split <;> simp
@[simp] theorem writeDin_rst (j : Nat) (v : Word) (s : State) : (s.writeDin j v).rst = s.rst := by
  unfold State.writeDin; split <;> simp
@[simp] theorem writeDin_rdata (j : Nat) (v : Word) (s : State) : (s.writeDin j v).rdata = s.rdata := by
  unfold State.writeDin; split <;> simp
@[simp] theorem writeDin_ops (j : Nat) (v : Word) (s : State) : (s.writeDin j v).ops = s.ops := by
  unfold State.writeDin; split <;> simp
@[simp] theorem writeDin_turns (j : Nat) (v : Word) (s : State) : (s.writeDin j v).turns = s.turns := by
  unfold State.writeDin; split <;> simp
@[simp] theorem writeDin_draws (j : Nat) (v : Word) (s : State) : (s.writeDin j v).draws = s.draws := by
  unfold State.writeDin; split <;> simp

/-! ### The datapath operations -/

@[simp] theorem compress_h (tb : Tables) (b : Block) (l : Nat) (s : State) : (s.compress tb b l).h = g tb s.h (bytes s.n) b := rfl
@[simp] theorem compress_n (tb : Tables) (b : Block) (l : Nat) (s : State) : (s.compress tb b l).n = updateN s.n l := rfl
@[simp] theorem compress_sigma (tb : Tables) (b : Block) (l : Nat) (s : State) : (s.compress tb b l).sigma = updateSigma s.sigma b := rfl
@[simp] theorem compress_outsize (tb : Tables) (b : Block) (l : Nat) (s : State) : (s.compress tb b l).outsize = s.outsize := rfl
@[simp] theorem compress_life (tb : Tables) (b : Block) (l : Nat) (s : State) : (s.compress tb b l).life = s.life := rfl
@[simp] theorem compress_busy (tb : Tables) (b : Block) (l : Nat) (s : State) : (s.compress tb b l).busy = s.busy := rfl
@[simp] theorem compress_err (tb : Tables) (b : Block) (l : Nat) (s : State) : (s.compress tb b l).err = s.err := rfl
@[simp] theorem compress_errcode (tb : Tables) (b : Block) (l : Nat) (s : State) : (s.compress tb b l).errcode = s.errcode := rfl
@[simp] theorem compress_din (tb : Tables) (b : Block) (l : Nat) (s : State) : (s.compress tb b l).din = s.din := rfl
@[simp] theorem compress_dout (tb : Tables) (b : Block) (l : Nat) (s : State) : (s.compress tb b l).dout = s.dout := rfl
@[simp] theorem compress_work (tb : Tables) (b : Block) (l : Nat) (s : State) : (s.compress tb b l).work = s.work := rfl
@[simp] theorem compress_rst (tb : Tables) (b : Block) (l : Nat) (s : State) : (s.compress tb b l).rst = s.rst := rfl
@[simp] theorem compress_rdata (tb : Tables) (b : Block) (l : Nat) (s : State) : (s.compress tb b l).rdata = s.rdata := rfl
@[simp] theorem compress_ops (tb : Tables) (b : Block) (l : Nat) (s : State) : (s.compress tb b l).ops = s.ops := rfl
@[simp] theorem compress_turns (tb : Tables) (b : Block) (l : Nat) (s : State) : (s.compress tb b l).turns = s.turns := rfl
@[simp] theorem compress_draws (tb : Tables) (b : Block) (l : Nat) (s : State) : (s.compress tb b l).draws = s.draws := rfl

/-! ### A fold -/

@[simp] theorem fold_h (tb : Tables) (b : Block) (s : State) : (s.fold tb b).h = g tb s.h zero64 b := rfl
@[simp] theorem fold_n (tb : Tables) (b : Block) (s : State) : (s.fold tb b).n = s.n := rfl
@[simp] theorem fold_sigma (tb : Tables) (b : Block) (s : State) : (s.fold tb b).sigma = s.sigma := rfl
@[simp] theorem fold_outsize (tb : Tables) (b : Block) (s : State) : (s.fold tb b).outsize = s.outsize := rfl
@[simp] theorem fold_life (tb : Tables) (b : Block) (s : State) : (s.fold tb b).life = s.life := rfl
@[simp] theorem fold_busy (tb : Tables) (b : Block) (s : State) : (s.fold tb b).busy = s.busy := rfl
@[simp] theorem fold_err (tb : Tables) (b : Block) (s : State) : (s.fold tb b).err = s.err := rfl
@[simp] theorem fold_errcode (tb : Tables) (b : Block) (s : State) : (s.fold tb b).errcode = s.errcode := rfl
@[simp] theorem fold_din (tb : Tables) (b : Block) (s : State) : (s.fold tb b).din = s.din := rfl
@[simp] theorem fold_dout (tb : Tables) (b : Block) (s : State) : (s.fold tb b).dout = s.dout := rfl
@[simp] theorem fold_work (tb : Tables) (b : Block) (s : State) : (s.fold tb b).work = s.work := rfl
@[simp] theorem fold_rst (tb : Tables) (b : Block) (s : State) : (s.fold tb b).rst = s.rst := rfl
@[simp] theorem fold_rdata (tb : Tables) (b : Block) (s : State) : (s.fold tb b).rdata = s.rdata := rfl
@[simp] theorem fold_ops (tb : Tables) (b : Block) (s : State) : (s.fold tb b).ops = s.ops := rfl
@[simp] theorem fold_turns (tb : Tables) (b : Block) (s : State) : (s.fold tb b).turns = s.turns := rfl
@[simp] theorem fold_draws (tb : Tables) (b : Block) (s : State) : (s.fold tb b).draws = s.draws := rfl

/-! ### Emitting the digest -/

@[simp] theorem emit_h (s : State) : (s.emit).h = s.h := rfl
@[simp] theorem emit_n (s : State) : (s.emit).n = s.n := rfl
@[simp] theorem emit_sigma (s : State) : (s.emit).sigma = s.sigma := rfl
@[simp] theorem emit_outsize (s : State) : (s.emit).outsize = s.outsize := rfl
@[simp] theorem emit_life (s : State) : (s.emit).life = .finalized := rfl
@[simp] theorem emit_busy (s : State) : (s.emit).busy = s.busy := rfl
@[simp] theorem emit_err (s : State) : (s.emit).err = s.err := rfl
@[simp] theorem emit_errcode (s : State) : (s.emit).errcode = s.errcode := rfl
@[simp] theorem emit_din (s : State) : (s.emit).din = s.din := rfl
@[simp] theorem emit_dout (s : State) : (s.emit).dout = digest s.h s.outsize.toNat := rfl
@[simp] theorem emit_work (s : State) : (s.emit).work = s.work := rfl
@[simp] theorem emit_rst (s : State) : (s.emit).rst = s.rst := rfl
@[simp] theorem emit_rdata (s : State) : (s.emit).rdata = s.rdata := rfl
@[simp] theorem emit_ops (s : State) : (s.emit).ops = s.ops := rfl
@[simp] theorem emit_turns (s : State) : (s.emit).turns = s.turns := rfl
@[simp] theorem emit_draws (s : State) : (s.emit).draws = s.draws := rfl

/-! ### The effect of INIT -/

@[simp] theorem commitInit_h (z : Nat) (s : State) : (commitInit z s).h = initialValue z := rfl
@[simp] theorem commitInit_n (z : Nat) (s : State) : (commitInit z s).n = Vector.replicate 8 0#64 := rfl
@[simp] theorem commitInit_sigma (z : Nat) (s : State) : (commitInit z s).sigma = Vector.replicate 8 0#64 := rfl
@[simp] theorem commitInit_outsize (z : Nat) (s : State) : (commitInit z s).outsize = BitVec.ofNat 8 z := rfl
@[simp] theorem commitInit_life (z : Nat) (s : State) : (commitInit z s).life = .streaming := rfl
@[simp] theorem commitInit_busy (z : Nat) (s : State) : (commitInit z s).busy = s.busy := rfl
@[simp] theorem commitInit_err (z : Nat) (s : State) : (commitInit z s).err = s.err := rfl
@[simp] theorem commitInit_errcode (z : Nat) (s : State) : (commitInit z s).errcode = s.errcode := rfl
@[simp] theorem commitInit_din (z : Nat) (s : State) : (commitInit z s).din = s.din := rfl
@[simp] theorem commitInit_dout (z : Nat) (s : State) : (commitInit z s).dout = zero64 := rfl
@[simp] theorem commitInit_work (z : Nat) (s : State) : (commitInit z s).work = s.work := rfl
@[simp] theorem commitInit_rst (z : Nat) (s : State) : (commitInit z s).rst = s.rst := rfl
@[simp] theorem commitInit_rdata (z : Nat) (s : State) : (commitInit z s).rdata = s.rdata := rfl
@[simp] theorem commitInit_ops (z : Nat) (s : State) : (commitInit z s).ops = s.ops := rfl
@[simp] theorem commitInit_turns (z : Nat) (s : State) : (commitInit z s).turns = s.turns := rfl
@[simp] theorem commitInit_draws (z : Nat) (s : State) : (commitInit z s).draws = s.draws := rfl

/-! ### The effect of UPDATE -/

@[simp] theorem commitUpdate_h (tb : Tables) (s : State) : (commitUpdate tb s).h = g tb s.h (bytes s.n) s.din := rfl
@[simp] theorem commitUpdate_n (tb : Tables) (s : State) : (commitUpdate tb s).n = updateN s.n 64 := rfl
@[simp] theorem commitUpdate_sigma (tb : Tables) (s : State) : (commitUpdate tb s).sigma = updateSigma s.sigma s.din := rfl
@[simp] theorem commitUpdate_outsize (tb : Tables) (s : State) : (commitUpdate tb s).outsize = s.outsize := rfl
@[simp] theorem commitUpdate_life (tb : Tables) (s : State) : (commitUpdate tb s).life = s.life := rfl
@[simp] theorem commitUpdate_busy (tb : Tables) (s : State) : (commitUpdate tb s).busy = s.busy := rfl
@[simp] theorem commitUpdate_err (tb : Tables) (s : State) : (commitUpdate tb s).err = s.err := rfl
@[simp] theorem commitUpdate_errcode (tb : Tables) (s : State) : (commitUpdate tb s).errcode = s.errcode := rfl
@[simp] theorem commitUpdate_din (tb : Tables) (s : State) : (commitUpdate tb s).din = s.din := rfl
@[simp] theorem commitUpdate_dout (tb : Tables) (s : State) : (commitUpdate tb s).dout = s.dout := rfl
@[simp] theorem commitUpdate_work (tb : Tables) (s : State) : (commitUpdate tb s).work = s.work := rfl
@[simp] theorem commitUpdate_rst (tb : Tables) (s : State) : (commitUpdate tb s).rst = s.rst := rfl
@[simp] theorem commitUpdate_rdata (tb : Tables) (s : State) : (commitUpdate tb s).rdata = s.rdata := rfl
@[simp] theorem commitUpdate_ops (tb : Tables) (s : State) : (commitUpdate tb s).ops = s.ops := rfl
@[simp] theorem commitUpdate_turns (tb : Tables) (s : State) : (commitUpdate tb s).turns = s.turns := rfl
@[simp] theorem commitUpdate_draws (tb : Tables) (s : State) : (commitUpdate tb s).draws = s.draws := rfl

/-! ### The effect of FINALIZE -/

@[simp] theorem commitFinalize_n (tb : Tables) (p : Nat) (s : State) : (commitFinalize tb p s).n = updateN s.n p := rfl
@[simp] theorem commitFinalize_sigma (tb : Tables) (p : Nat) (s : State) : (commitFinalize tb p s).sigma = updateSigma s.sigma (pad s.din p) := rfl
@[simp] theorem commitFinalize_outsize (tb : Tables) (p : Nat) (s : State) : (commitFinalize tb p s).outsize = s.outsize := rfl
@[simp] theorem commitFinalize_life (tb : Tables) (p : Nat) (s : State) : (commitFinalize tb p s).life = .finalized := rfl
@[simp] theorem commitFinalize_busy (tb : Tables) (p : Nat) (s : State) : (commitFinalize tb p s).busy = s.busy := rfl
@[simp] theorem commitFinalize_err (tb : Tables) (p : Nat) (s : State) : (commitFinalize tb p s).err = s.err := rfl
@[simp] theorem commitFinalize_errcode (tb : Tables) (p : Nat) (s : State) : (commitFinalize tb p s).errcode = s.errcode := rfl
@[simp] theorem commitFinalize_din (tb : Tables) (p : Nat) (s : State) : (commitFinalize tb p s).din = s.din := rfl
@[simp] theorem commitFinalize_work (tb : Tables) (p : Nat) (s : State) : (commitFinalize tb p s).work = s.work := rfl
@[simp] theorem commitFinalize_rst (tb : Tables) (p : Nat) (s : State) : (commitFinalize tb p s).rst = s.rst := rfl
@[simp] theorem commitFinalize_rdata (tb : Tables) (p : Nat) (s : State) : (commitFinalize tb p s).rdata = s.rdata := rfl
@[simp] theorem commitFinalize_ops (tb : Tables) (p : Nat) (s : State) : (commitFinalize tb p s).ops = s.ops := rfl
@[simp] theorem commitFinalize_turns (tb : Tables) (p : Nat) (s : State) : (commitFinalize tb p s).turns = s.turns := rfl
@[simp] theorem commitFinalize_draws (tb : Tables) (p : Nat) (s : State) : (commitFinalize tb p s).draws = s.draws := rfl

theorem commitFinalize_h (tb : Tables) (p : Nat) (s : State) : (commitFinalize tb p s).h =
    g tb (g tb (g tb s.h (bytes s.n) (pad s.din p)) zero64 (bytes (updateN s.n p))) zero64
      (bytes (updateSigma s.sigma (pad s.din p))) := rfl
theorem commitFinalize_dout (tb : Tables) (p : Nat) (s : State) :
    (commitFinalize tb p s).dout = digest (commitFinalize tb p s).h s.outsize.toNat := rfl

/-! ### A read -/

@[simp] theorem read_h (x : WordIndex) (s : State) : (s.read x).h = s.h := by
  unfold State.read; split <;> rfl
@[simp] theorem read_n (x : WordIndex) (s : State) : (s.read x).n = s.n := by
  unfold State.read; split <;> rfl
@[simp] theorem read_sigma (x : WordIndex) (s : State) : (s.read x).sigma = s.sigma := by
  unfold State.read; split <;> rfl
@[simp] theorem read_outsize (x : WordIndex) (s : State) : (s.read x).outsize = s.outsize := by
  unfold State.read; split <;> rfl
@[simp] theorem read_life (x : WordIndex) (s : State) : (s.read x).life = s.life := by
  unfold State.read; split <;> rfl
@[simp] theorem read_busy (x : WordIndex) (s : State) : (s.read x).busy = s.busy := by
  unfold State.read; split <;> rfl
@[simp] theorem read_err (x : WordIndex) (s : State) : (s.read x).err = s.err := by
  unfold State.read; split <;> rfl
@[simp] theorem read_errcode (x : WordIndex) (s : State) : (s.read x).errcode = s.errcode := by
  unfold State.read; split <;> rfl
@[simp] theorem read_din (x : WordIndex) (s : State) : (s.read x).din = s.din := by
  unfold State.read; split <;> rfl
@[simp] theorem read_dout (x : WordIndex) (s : State) : (s.read x).dout = s.dout := by
  unfold State.read; split <;> rfl
@[simp] theorem read_work (x : WordIndex) (s : State) : (s.read x).work = s.work := by
  unfold State.read; split <;> rfl
@[simp] theorem read_rst (x : WordIndex) (s : State) : (s.read x).rst = s.rst := by
  unfold State.read; split <;> rfl
@[simp] theorem read_ops (x : WordIndex) (s : State) : (s.read x).ops = s.ops := by
  unfold State.read; split <;> rfl
@[simp] theorem read_turns (x : WordIndex) (s : State) : (s.read x).turns = s.turns := by
  unfold State.read; split <;> rfl

/-! ### Reset -/

@[simp] theorem resetRegisters_h (s : State) : (s.resetRegisters).h = zero64 := rfl
@[simp] theorem resetRegisters_n (s : State) : (s.resetRegisters).n = Vector.replicate 8 0#64 := rfl
@[simp] theorem resetRegisters_sigma (s : State) : (s.resetRegisters).sigma = Vector.replicate 8 0#64 := rfl
@[simp] theorem resetRegisters_outsize (s : State) : (s.resetRegisters).outsize = 0#8 := rfl
@[simp] theorem resetRegisters_life (s : State) : (s.resetRegisters).life = .uninit := rfl
@[simp] theorem resetRegisters_busy (s : State) : (s.resetRegisters).busy = false := rfl
@[simp] theorem resetRegisters_err (s : State) : (s.resetRegisters).err = false := rfl
@[simp] theorem resetRegisters_errcode (s : State) : (s.resetRegisters).errcode = none := rfl
@[simp] theorem resetRegisters_din (s : State) : (s.resetRegisters).din = zero64 := rfl
@[simp] theorem resetRegisters_dout (s : State) : (s.resetRegisters).dout = zero64 := rfl
@[simp] theorem resetRegisters_work (s : State) : (s.resetRegisters).work = none := rfl
@[simp] theorem resetRegisters_rst (s : State) : (s.resetRegisters).rst = s.rst := rfl
@[simp] theorem resetRegisters_rdata (s : State) : (s.resetRegisters).rdata = s.rdata := rfl
@[simp] theorem resetRegisters_ops (s : State) : (s.resetRegisters).ops = s.ops := rfl
@[simp] theorem resetRegisters_turns (s : State) : (s.resetRegisters).turns = s.turns := rfl
@[simp] theorem resetRegisters_draws (s : State) : (s.resetRegisters).draws = s.draws := rfl

/-! ### Work inside a command -/

@[simp] theorem workOn_h (tb : Tables) (s : State) : (s.workOn tb).h = s.h := rfl
@[simp] theorem workOn_n (tb : Tables) (s : State) : (s.workOn tb).n = s.n := rfl
@[simp] theorem workOn_sigma (tb : Tables) (s : State) : (s.workOn tb).sigma = s.sigma := rfl
@[simp] theorem workOn_outsize (tb : Tables) (s : State) : (s.workOn tb).outsize = s.outsize := rfl
@[simp] theorem workOn_life (tb : Tables) (s : State) : (s.workOn tb).life = s.life := rfl
@[simp] theorem workOn_busy (tb : Tables) (s : State) : (s.workOn tb).busy = s.busy := rfl
@[simp] theorem workOn_err (tb : Tables) (s : State) : (s.workOn tb).err = s.err := rfl
@[simp] theorem workOn_errcode (tb : Tables) (s : State) : (s.workOn tb).errcode = s.errcode := rfl
@[simp] theorem workOn_din (tb : Tables) (s : State) : (s.workOn tb).din = s.din := rfl
@[simp] theorem workOn_dout (tb : Tables) (s : State) : (s.workOn tb).dout = s.dout := rfl
@[simp] theorem workOn_work (tb : Tables) (s : State) : (s.workOn tb).work = s.work.map (Work.advance tb) := rfl
@[simp] theorem workOn_rst (tb : Tables) (s : State) : (s.workOn tb).rst = s.rst := rfl
@[simp] theorem workOn_rdata (tb : Tables) (s : State) : (s.workOn tb).rdata = s.rdata := rfl
@[simp] theorem workOn_ops (tb : Tables) (s : State) : (s.workOn tb).ops = s.ops := rfl
@[simp] theorem workOn_turns (tb : Tables) (s : State) : (s.workOn tb).turns = s.turns := rfl
@[simp] theorem workOn_draws (tb : Tables) (s : State) : (s.workOn tb).draws = s.draws := rfl

/-! ### Taking a turn -/

@[simp] theorem takeTurn_h (s : State) : (s.takeTurn).h = s.h := rfl
@[simp] theorem takeTurn_n (s : State) : (s.takeTurn).n = s.n := rfl
@[simp] theorem takeTurn_sigma (s : State) : (s.takeTurn).sigma = s.sigma := rfl
@[simp] theorem takeTurn_outsize (s : State) : (s.takeTurn).outsize = s.outsize := rfl
@[simp] theorem takeTurn_life (s : State) : (s.takeTurn).life = s.life := rfl
@[simp] theorem takeTurn_busy (s : State) : (s.takeTurn).busy = s.busy := rfl
@[simp] theorem takeTurn_err (s : State) : (s.takeTurn).err = s.err := rfl
@[simp] theorem takeTurn_errcode (s : State) : (s.takeTurn).errcode = s.errcode := rfl
@[simp] theorem takeTurn_din (s : State) : (s.takeTurn).din = s.din := rfl
@[simp] theorem takeTurn_dout (s : State) : (s.takeTurn).dout = s.dout := rfl
@[simp] theorem takeTurn_work (s : State) : (s.takeTurn).work = s.work := rfl
@[simp] theorem takeTurn_rst (s : State) : (s.takeTurn).rst = s.rst := rfl
@[simp] theorem takeTurn_rdata (s : State) : (s.takeTurn).rdata = s.rdata := rfl
@[simp] theorem takeTurn_ops (s : State) : (s.takeTurn).ops = s.ops := rfl
@[simp] theorem takeTurn_turns (s : State) : (s.takeTurn).turns = s.turns.tail := rfl
@[simp] theorem takeTurn_draws (s : State) : (s.takeTurn).draws = s.draws := rfl

/-! ### Placing a command word -/

@[simp] theorem withFetchWord_h (b w : Nat) (s : State) : (s.withFetchWord b w).h = s.h := rfl
@[simp] theorem withFetchWord_n (b w : Nat) (s : State) : (s.withFetchWord b w).n = s.n := rfl
@[simp] theorem withFetchWord_sigma (b w : Nat) (s : State) : (s.withFetchWord b w).sigma = s.sigma := rfl
@[simp] theorem withFetchWord_outsize (b w : Nat) (s : State) : (s.withFetchWord b w).outsize = s.outsize := rfl
@[simp] theorem withFetchWord_life (b w : Nat) (s : State) : (s.withFetchWord b w).life = s.life := rfl
@[simp] theorem withFetchWord_busy (b w : Nat) (s : State) : (s.withFetchWord b w).busy = s.busy := rfl
@[simp] theorem withFetchWord_err (b w : Nat) (s : State) : (s.withFetchWord b w).err = s.err := rfl
@[simp] theorem withFetchWord_errcode (b w : Nat) (s : State) : (s.withFetchWord b w).errcode = s.errcode := rfl
@[simp] theorem withFetchWord_din (b w : Nat) (s : State) : (s.withFetchWord b w).din = s.din := rfl
@[simp] theorem withFetchWord_dout (b w : Nat) (s : State) : (s.withFetchWord b w).dout = s.dout := rfl
@[simp] theorem withFetchWord_work (b w : Nat) (s : State) : (s.withFetchWord b w).work = s.work := rfl
@[simp] theorem withFetchWord_rst (b w : Nat) (s : State) : (s.withFetchWord b w).rst = false := rfl
@[simp] theorem withFetchWord_rdata (b w : Nat) (s : State) : (s.withFetchWord b w).rdata = s.rdata := rfl
@[simp] theorem withFetchWord_ops (b w : Nat) (s : State) : (s.withFetchWord b w).ops = .write 0#7 (tableWord b w) :: s.ops := rfl
@[simp] theorem withFetchWord_turns (b w : Nat) (s : State) : (s.withFetchWord b w).turns = .host :: s.turns := rfl
@[simp] theorem withFetchWord_draws (b w : Nat) (s : State) : (s.withFetchWord b w).draws = s.draws := rfl

/-! ### The host's next operations -/

@[simp] theorem withOps_h (ops : List HostOp) (s : State) : (s.withOps ops).h = s.h := rfl
@[simp] theorem withOps_n (ops : List HostOp) (s : State) : (s.withOps ops).n = s.n := rfl
@[simp] theorem withOps_sigma (ops : List HostOp) (s : State) : (s.withOps ops).sigma = s.sigma := rfl
@[simp] theorem withOps_outsize (ops : List HostOp) (s : State) : (s.withOps ops).outsize = s.outsize := rfl
@[simp] theorem withOps_life (ops : List HostOp) (s : State) : (s.withOps ops).life = s.life := rfl
@[simp] theorem withOps_busy (ops : List HostOp) (s : State) : (s.withOps ops).busy = s.busy := rfl
@[simp] theorem withOps_err (ops : List HostOp) (s : State) : (s.withOps ops).err = s.err := rfl
@[simp] theorem withOps_errcode (ops : List HostOp) (s : State) : (s.withOps ops).errcode = s.errcode := rfl
@[simp] theorem withOps_din (ops : List HostOp) (s : State) : (s.withOps ops).din = s.din := rfl
@[simp] theorem withOps_dout (ops : List HostOp) (s : State) : (s.withOps ops).dout = s.dout := rfl
@[simp] theorem withOps_work (ops : List HostOp) (s : State) : (s.withOps ops).work = s.work := rfl
@[simp] theorem withOps_rst (ops : List HostOp) (s : State) : (s.withOps ops).rst = s.rst := rfl
@[simp] theorem withOps_rdata (ops : List HostOp) (s : State) : (s.withOps ops).rdata = s.rdata := rfl
@[simp] theorem withOps_ops (ops : List HostOp) (s : State) : (s.withOps ops).ops = ops := rfl
@[simp] theorem withOps_turns (ops : List HostOp) (s : State) : (s.withOps ops).turns = s.turns := rfl
@[simp] theorem withOps_draws (ops : List HostOp) (s : State) : (s.withOps ops).draws = s.draws := rfl

/-! ### The effect of any command, and completion -/

@[simp] theorem commit_busy (tb : Tables) (i : Instr) (s : State) : (s.commit tb i).busy = s.busy := by cases i <;> rfl
@[simp] theorem commit_err (tb : Tables) (i : Instr) (s : State) : (s.commit tb i).err = s.err := by cases i <;> rfl
@[simp] theorem commit_errcode (tb : Tables) (i : Instr) (s : State) : (s.commit tb i).errcode = s.errcode := by cases i <;> rfl
@[simp] theorem commit_din (tb : Tables) (i : Instr) (s : State) : (s.commit tb i).din = s.din := by cases i <;> rfl
@[simp] theorem commit_work (tb : Tables) (i : Instr) (s : State) : (s.commit tb i).work = s.work := by cases i <;> rfl
@[simp] theorem commit_rst (tb : Tables) (i : Instr) (s : State) : (s.commit tb i).rst = s.rst := by cases i <;> rfl
@[simp] theorem commit_rdata (tb : Tables) (i : Instr) (s : State) : (s.commit tb i).rdata = s.rdata := by cases i <;> rfl
@[simp] theorem commit_ops (tb : Tables) (i : Instr) (s : State) : (s.commit tb i).ops = s.ops := by cases i <;> rfl
@[simp] theorem commit_turns (tb : Tables) (i : Instr) (s : State) : (s.commit tb i).turns = s.turns := by cases i <;> rfl
@[simp] theorem commit_draws (tb : Tables) (i : Instr) (s : State) : (s.commit tb i).draws = s.draws := by cases i <;> rfl
@[simp] theorem complete_err (tb : Tables) (s : State) : (s.complete tb).err = s.err := by
  unfold State.complete; split <;> simp
@[simp] theorem complete_errcode (tb : Tables) (s : State) : (s.complete tb).errcode = s.errcode := by
  unfold State.complete; split <;> simp
@[simp] theorem complete_din (tb : Tables) (s : State) : (s.complete tb).din = s.din := by
  unfold State.complete; split <;> simp
@[simp] theorem complete_rst (tb : Tables) (s : State) : (s.complete tb).rst = s.rst := by
  unfold State.complete; split <;> simp
@[simp] theorem complete_rdata (tb : Tables) (s : State) : (s.complete tb).rdata = s.rdata := by
  unfold State.complete; split <;> simp
@[simp] theorem complete_ops (tb : Tables) (s : State) : (s.complete tb).ops = s.ops := by
  unfold State.complete; split <;> simp
@[simp] theorem complete_turns (tb : Tables) (s : State) : (s.complete tb).turns = s.turns := by
  unfold State.complete; split <;> simp
@[simp] theorem complete_draws (tb : Tables) (s : State) : (s.complete tb).draws = s.draws := by
  unfold State.complete; split <;> simp

/-! ### Holding reset, polling -/

@[simp] theorem holdReset_rst (s : State) : s.holdReset.rst = s.rst := by
  unfold State.holdReset; split <;> simp
@[simp] theorem holdReset_rdata (s : State) : s.holdReset.rdata = s.rdata := by
  unfold State.holdReset; split <;> simp
@[simp] theorem holdReset_ops (s : State) : s.holdReset.ops = s.ops := by
  unfold State.holdReset; split <;> simp
@[simp] theorem holdReset_turns (s : State) : s.holdReset.turns = s.turns := by
  unfold State.holdReset; split <;> simp
@[simp] theorem holdReset_draws (s : State) : s.holdReset.draws = s.draws := by
  unfold State.holdReset; split <;> simp
@[simp] theorem waitPoll_h (s : State) : s.waitPoll.h = s.h := by
  simp only [State.waitPoll]; split <;> simp
@[simp] theorem waitPoll_n (s : State) : s.waitPoll.n = s.n := by
  simp only [State.waitPoll]; split <;> simp
@[simp] theorem waitPoll_sigma (s : State) : s.waitPoll.sigma = s.sigma := by
  simp only [State.waitPoll]; split <;> simp
@[simp] theorem waitPoll_outsize (s : State) : s.waitPoll.outsize = s.outsize := by
  simp only [State.waitPoll]; split <;> simp
@[simp] theorem waitPoll_life (s : State) : s.waitPoll.life = s.life := by
  simp only [State.waitPoll]; split <;> simp
@[simp] theorem waitPoll_busy (s : State) : s.waitPoll.busy = s.busy := by
  simp only [State.waitPoll]; split <;> simp
@[simp] theorem waitPoll_err (s : State) : s.waitPoll.err = s.err := by
  simp only [State.waitPoll]; split <;> simp
@[simp] theorem waitPoll_errcode (s : State) : s.waitPoll.errcode = s.errcode := by
  simp only [State.waitPoll]; split <;> simp
@[simp] theorem waitPoll_din (s : State) : s.waitPoll.din = s.din := by
  simp only [State.waitPoll]; split <;> simp
@[simp] theorem waitPoll_dout (s : State) : s.waitPoll.dout = s.dout := by
  simp only [State.waitPoll]; split <;> simp
@[simp] theorem waitPoll_work (s : State) : s.waitPoll.work = s.work := by
  simp only [State.waitPoll]; split <;> simp
@[simp] theorem waitPoll_rst (s : State) : s.waitPoll.rst = s.rst := by
  simp only [State.waitPoll]; split <;> simp
@[simp] theorem waitPoll_turns (s : State) : s.waitPoll.turns = s.turns := by
  simp only [State.waitPoll]; split <;> simp

end Sys2Proof.Machine
end

