-- ==== Sys2Proof/Laws/Ops.lean ====
section
/-! SUPPORT. Everything each shared operation can do, said once. -/

namespace Sys2Proof.Machine

theorem raise_of_err {s : State} (e : Error) (h : s.err = true) : s.raise e = s := by simp [State.raise, h]

theorem raise_of_clear {s : State} (e : Error) (h : s.err = false) :
    s.raise e = { s with err := true, errcode := some e } := by simp [State.raise, h]

@[simp] theorem raise_err (e : Error) (s : State) : (s.raise e).err = true := by
  cases h : s.err <;> simp [State.raise, h]

/-- `ERR` and `ERRCODE` agree after an error if they did before. -/
theorem raise_agrees (e : Error) {s : State} (h : s.err = s.errcode.isSome) :
    (s.raise e).err = (s.raise e).errcode.isSome := by
  cases he : s.err
  · simp [raise_of_clear e he]
  · simp [raise_of_err e he, h]

/-- Everything a `CMD` write can do: report an error, or accept an acceptable command while none runs. -/
inductive Issued (s t : State) : Prop where
  | rejected (e : Error) (eq : t = s.raise e)
  | accepted (i : Instr) (idle : s.busy = false) (legal : acceptable i s) (eq : t = s.accept i)

theorem issue_cases {i : Instr} {o : Option Error} {s : State} (h : o = none → acceptable i s) :
    Issued s (s.issue i o) := by
  unfold State.issue
  cases hb : s.busy with
  | true => exact .rejected .busyViolation (by simp)
  | false =>
    cases o with
    | some e => exact .rejected e (by simp)
    | none => exact .accepted i hb (h rfl) (by simp)

theorem sizeObjection_none {size : Nat} (h : sizeObjection size = none) : size = 32 ∨ size = 64 := by
  unfold sizeObjection at h
  split at h
  · assumption
  · cases h

theorem stateObjection_none {s : State} (h : stateObjection s = none) : s.life = .streaming := by
  unfold stateObjection at h
  split at h
  · assumption
  · cases h

/-- Every command write answers a next state. -/
theorem exec_cases {i : Instr} (s : State) (wf : i.wellFormed = true) : ∃ t, exec i s = .next t ∧ Issued s t := by
  cases i with
  | init size => exact ⟨_, rfl, issue_cases fun h => sizeObjection_none h⟩
  | update => exact ⟨_, rfl, issue_cases fun h => stateObjection_none h⟩
  | finalize pos =>
    exact ⟨_, rfl, issue_cases fun h => ⟨by simpa [Instr.wellFormed] using wf, stateObjection_none h⟩⟩

theorem decode_wellFormed {v : Word} {i : Instr} (h : decode v = .command i) : i.wellFormed = true := by
  obtain ⟨-, -, rfl⟩ | ⟨-, -, rfl⟩ | ⟨-, -, rfl⟩ := decode_command h
  · simpa [Instr.wellFormed] using sizeField_lt v
  · rfl
  · simpa [Instr.wellFormed] using posField_lt v

theorem issueCommand_cases (v : Word) (s : State) : ∃ t, issueCommand v s = .next t ∧ Issued s t := by
  unfold issueCommand
  split
  · exact exec_cases s (decode_wellFormed ‹_›)
  · refine ⟨_, rfl, ?_⟩
    unfold State.issueIllegal
    split <;> exact .rejected _ rfl

/-- Everything a write of the port can do (spec/20_memory.md R65). -/
inductive Written (s t : State) : Prop where
  | ignored (eq : t = s)
  | command (h : Issued s t)
  | cleared (eq : t = s.clearError)
  | violation (busy : s.busy = true) (eq : t = s.raise .busyViolation)
  | din (j : Nat) (v : Word) (idle : s.busy = false) (eq : t = { s with din := putWord s.din j v })

theorem portWrite_cases (widx : WordIndex) (v : Word) (s : State) : ∃ t, portWrite widx v s = .next t ∧ Written s t := by
  unfold portWrite
  split
  · obtain ⟨t, ht, hi⟩ := issueCommand_cases v s
    exact ⟨t, ht, .command hi⟩
  · split
    · refine ⟨_, rfl, ?_⟩
      unfold State.writeStatus
      split
      · exact .cleared rfl
      · exact .ignored rfl
    · split
      · refine ⟨_, rfl, ?_⟩
        cases hb : s.busy with
        | true => exact .violation hb (by simp [State.writeDin, hb])
        | false => exact .din _ v hb (by simp [State.writeDin, hb]; rfl)
      · exact ⟨_, rfl, .ignored rfl⟩

/-- A read changes only the read data and the number of values drawn. -/
theorem read_eq (widx : WordIndex) (s : State) :
    s.read widx = { s with rdata := (s.read widx).rdata, draws := (s.read widx).draws } := by
  unfold State.read; split <;> rfl

theorem read_of_free {widx : WordIndex} {s : State} (h : s.readIsFree widx = true) :
    s.read widx = { s with rdata := Config.any32 s.draws, draws := s.draws + 1 } := by simp [State.read, h]

theorem read_of_defined {widx : WordIndex} {s : State} (h : s.readIsFree widx = false) :
    s.read widx = { s with rdata := s.windowWord widx } := by simp [State.read, h]

/-- What a command commits depends on the constant tables only in `h` and `DOUT` (spec/00_scope.md R8). -/
theorem commit_tables (tb tb' : Tables) (i : Instr) (s : State) :
    s.commit tb i = { s.commit tb' i with h := (s.commit tb i).h, dout := (s.commit tb i).dout } := by
  cases i with
  | init size => rfl
  | update => simp only [State.commit, commitUpdate, State.compress]
  | finalize pos => simp only [State.commit, commitFinalize, State.emit, State.fold, State.compress]

theorem complete_of_idle (tb : Tables) {s : State} (h : s.work = none) : s.complete tb = s := by simp [State.complete, h]

theorem complete_of_running (tb : Tables) {s : State} {w : Work} (h : s.work = some w) :
    s.complete tb = { s.commit tb w.cmd with busy := false, work := none } := by simp [State.complete, h]

theorem holdReset_of_low {s : State} (h : s.rst = false) : s.holdReset = s := by simp [State.holdReset, h]

theorem holdReset_of_high {s : State} (h : s.rst = true) : s.holdReset = s.resetRegisters := by
  simp [State.holdReset, h]

/-- The machine's step is the step at the spec's default tables, so what holds for every tables holds of it. -/
theorem step_eq_stepWith (s : State) : step s = stepWith standardTables s := rfl

/-- A step with `rst` not asserted, by whose turn it is. -/
theorem stepWith_of_low (tb : Tables) {s : State} (h : s.rst = false) :
    stepWith tb s = runTurn tb s.nextTurn s.takeTurn := by
  simp [stepWith, holdReset_of_low h]

/-- A step with `rst` asserted: the turn on the registers at their reset values (spec/70_reset_and_hazards.md R280). -/
theorem stepWith_of_high (tb : Tables) {s : State} (h : s.rst = true) :
    stepWith tb s = runTurn tb s.nextTurn s.resetRegisters.takeTurn := by
  simp [stepWith, holdReset_of_high h]

end Sys2Proof.Machine
end

