-- ==== Sys2Proof/Laws/PerInstr.lean ====
section
/-! SUPPORT. Per-instruction lemmas: every constructor of `Instr`, one lemma each. -/

namespace Sys2Proof.Laws

/-- The word of a well-formed command sets no bit outside the command's `ALLOWED` mask (spec/30_encoding.md R92). -/
def EncodeFits.Statement (i : Instr) : Prop :=
  i.wellFormed = true →
    encode i &&& ~~~(match i with
      | .init _ => allowedInit
      | .update => allowedUpdate
      | .finalize _ => allowedFinalize) = 0#32

theorem EncodeFits.init (size : Nat) : EncodeFits.Statement (.init size) := by
  have all : ∀ n, n < 256 → encode (.init n) &&& ~~~allowedInit = 0#32 := by decide +kernel
  intro h
  exact all size (by simpa [Instr.wellFormed] using h)

theorem EncodeFits.update : EncodeFits.Statement .update := by
  intro _; decide

theorem EncodeFits.finalize (pos : Nat) : EncodeFits.Statement (.finalize pos) := by
  have all : ∀ n, n < 64 → encode (.finalize n) &&& ~~~allowedFinalize = 0#32 := by decide +kernel
  intro h
  exact all pos (by simpa [Instr.wellFormed] using h)

end Sys2Proof.Laws
end

