-- ==== Sys2Proof/Tests/Slice0.lean ====
section
/-! SUPPORT. The model's own tests. Expected values are the spec's (the file and vector are named); none is the model's own answer.
Then one witness for each statement with hypotheses: a concrete state and operands that meet them. -/

namespace Sys2Proof.Tests

open Sys2Proof Sys2Proof.Machine

/-! ## Helpers -/

/-- A session just opened (spec/95 V-C1, V-C2). -/
def session (size : Nat) : State :=
  { State.reset with life := .streaming, outsize := BitVec.ofNat 8 size, h := initialValue size }

/-- A session with an UPDATE running. -/
def running : State := (session 64).accept .update

/-- A session that is over. -/
def sessionOver : State := { session 64 with life := .finalized }

/-- A state with ILLEGAL_STATE recorded (spec/95 V-C5). -/
def withError : State := { State.reset with err := true, errcode := some .illegalState }

/-- The next state, if there is one. -/
def nextOf (o : Host.Outcome State Fault Refusal) : Option State :=
  match o with
  | .next s => some s
  | .fault _ => none
  | .refused _ => none

/-- `STATUS` after a write of the port. -/
def statusAfter (s : State) (widx : WordIndex) (v : Word) : Option Word :=
  (nextOf (portWrite widx v s)).map statusWord

/-- `STATUS` after a `CMD` write and, if it is accepted, its completion. -/
def statusCompleted (s : State) (v : Word) : Option Word :=
  (nextOf (portWrite 0#7 v s)).map fun t => statusWord (t.complete standardTables)

/-! ## Well-formedness: an ill-formed term for each check -/

theorem test_wellFormed_refuses_wide_size : (Instr.init 256).wellFormed = false := by decide

theorem test_wellFormed_refuses_wide_pos : (Instr.finalize 64).wellFormed = false := by decide

theorem test_wellFormed_accepts : (Instr.init 255).wellFormed = true ∧ Instr.update.wellFormed = true ∧
    (Instr.finalize 63).wellFormed = true := by decide

/-! ## Decoding: words written out bit by bit from the patterns of spec/30_encoding.md R92 -/

theorem test_decode_init : decode 0b00000000000000000100000000000001#32 = .command (.init 64) := by decide

theorem test_decode_update : decode 0b00000000000000000000000000000010#32 = .command .update := by decide

theorem test_decode_finalize : decode 0b00000000001001000000000000000011#32 = .command (.finalize 36) := by decide

theorem test_decode_pos_has_six_bits : decode 0b00000000010000000000000000000011#32 = .illegal .reservedBits := by decide

theorem test_decode_reserved_op : decode 0b00000000000000000000000000000100#32 = .illegal .reservedOp := by decide

theorem test_encode_words : encode (.init 32) = 0x00002001#32 ∧ encode .update = 0x00000002#32 ∧
    encode (.finalize 63) = 0x003F0003#32 := by decide

theorem test_decodeTableWord : decodeTableWord 32 0x00003001 = some (.init 48) ∧ decodeTableWord 32 0x10002 = none := by decide

/-! ## Datapath -/

/-- spec/40_lps.md R125, spot values. -/
theorem test_lpsTable_spots : lpsTable 0 0x01#8 = 0x16FA240980778325#64 ∧ lpsTable 7 0x80#8 = 0xD3FE65279F218860#64 ∧
    lpsTable 3 0xFF#8 = 0x37932A9176AF8BF4#64 := by decide +kernel

/-- spec/95 V-L2. -/
theorem test_lps_one : lps standardTables (hexBlock 0x01000000000000000000000000000000000000000000000000000000000000000000000000000000000000000000000000000000000000000000000000000000) zero64 =
    hexBlock 0xb7dedd127ca9667574a5d4ce2efc83b374a5d4ce2efc83b374a5d4ce2efc83b374a5d4ce2efc83b374a5d4ce2efc83b374a5d4ce2efc83b374a5d4ce2efc83b3 := by
  decide +kernel

/-- spec/95 §3.2, round 0 of the trace of V-G2. -/
theorem test_cipherRound_trace : cipherRound standardTables 0
      { key := hexBlock 0x74a5d4ce2efc83b374a5d4ce2efc83b374a5d4ce2efc83b374a5d4ce2efc83b374a5d4ce2efc83b374a5d4ce2efc83b374a5d4ce2efc83b374a5d4ce2efc83b3,
        data := hexBlock 0x01000000000000000000000000000000000000000000000000000000000000000000000000000000000000000000000000000000000000000000000000000000 } =
    { data := hexBlock 0x261123e23371a32c00000000000000001f25a8f9f34ce25aab22a28f77e7e66bd95acc8dc38e7804d8f10caff839f3d5f7721d78afa9f9216cf606d97c92f7e4,
      key := hexBlock 0x1ecf460cf78ad1f433ec7e1dbd28f736103051a02bcd69359727dab2f014be88c1e9da0708013da7e92eef3ad202e9e00de874c7ebc3f2138fd72f640708b0d0 } := by
  decide +kernel

/-- spec/95 V-A2, V-A4. -/
theorem test_adc_carries : adc 0xFFFFFFFFFFFFFFFF#64 1#64 0#64 = { limb := 0#64, carry := 1#64 } ∧
    adc 0xFFFFFFFFFFFFFFFF#64 0xFFFFFFFFFFFFFFFF#64 1#64 = { limb := 0xFFFFFFFFFFFFFFFF#64, carry := 1#64 } := by decide

/-- spec/95 V-N2, V-N3. -/
theorem test_updateN_ripples :
    intOf (updateN (Vector.replicate 8 0xFFFFFFFFFFFFFFFF#64) 1) = 7 ∧
    intOf (updateN (words (hexBlock 0xF8FFFFFFFFFFFFFF0000000000000000000000000000000000000000000000000000000000000000000000000000000000000000000000000000000000000000)) 1) = 2 ^ 64 := by decide +kernel

/-- spec/95 V-S1, V-S3. -/
theorem test_updateSigma_wraps :
    updateSigma (Vector.replicate 8 0xFFFFFFFFFFFFFFFF#64) (hexBlock 0x01000000000000000000000000000000000000000000000000000000000000000000000000000000000000000000000000000000000000000000000000000000) = Vector.replicate 8 0#64 ∧
    bytes (updateSigma (Vector.replicate 8 0xFFFFFFFFFFFFFFFF#64) (Vector.replicate 64 0xFF#8)) =
      hexBlock 0xFEFFFFFFFFFFFFFFFFFFFFFFFFFFFFFFFFFFFFFFFFFFFFFFFFFFFFFFFFFFFFFFFFFFFFFFFFFFFFFFFFFFFFFFFFFFFFFFFFFFFFFFFFFFFFFFFFFFFFFFFFFFFFFF := by decide +kernel

/-- spec/43_controller.md R205, corner case `POS` = 63: 63 message bytes followed by 0x01. -/
theorem test_pad_63 : byteAt (pad (Vector.replicate 64 0xAA#8) 63) 62 = 0xAA#8 ∧
    byteAt (pad (Vector.replicate 64 0xAA#8) 63) 63 = 0x01#8 := by decide +kernel

/-- spec/95 P1b: `H` and `DOUT` of the empty message at size 32. -/
theorem test_digest_right_half : digest (hexBlock 0xa2aba9e7912d19a98a66ba4f4f1f2a975cd81319dab1ba687507fc8935b60c6c3f539a213e97c802cc229d474c6aa32a825a360b2a933a949fd925208d9ce1bb) 32 =
    hexBlock 0x3f539a213e97c802cc229d474c6aa32a825a360b2a933a949fd925208d9ce1bb0000000000000000000000000000000000000000000000000000000000000000 := by
  decide +kernel

/-! ## Commands and STATUS (spec/95 §3.4) -/

/-- V-C1, V-C2. -/
theorem test_init_status : statusCompleted State.reset 0x00002001#32 = some 0x00002001#32 ∧
    statusCompleted State.reset 0x00004001#32 = some 0x00004001#32 := by decide +kernel

/-- V-B1: `STATE` and `OUTSIZE` are committed at completion. -/
theorem test_init_busy_status : statusAfter State.reset 0#7 0x00004001#32 = some 0x00000004#32 := by decide +kernel

/-- V-C3, V-C4. -/
theorem test_init_rejected : statusCompleted State.reset 0x00003001#32 = some 0x00000018#32 ∧
    statusCompleted (session 64) 0x00000001#32 = some 0x00004019#32 := by decide +kernel

/-- V-B2, V-C5. -/
theorem test_update_status : statusAfter (session 64) 0#7 0x00000002#32 = some 0x00004005#32 ∧
    statusCompleted State.reset 0x00000002#32 = some 0x00000028#32 := by decide +kernel

/-- V-B3, V-C13. -/
theorem test_finalize_status : statusAfter (session 64) 0#7 0x00000003#32 = some 0x00004005#32 ∧
    statusCompleted sessionOver 0x00000003#32 = some 0x0000402A#32 := by decide +kernel

/-- V-C7, V-C8, V-C10: ILLEGAL_COMMAND before ILLEGAL_STATE. -/
theorem test_illegal_command_status : statusCompleted State.reset 0x00000004#32 = some 0x00000038#32 ∧
    statusCompleted State.reset 0x00010002#32 = some 0x00000038#32 ∧
    statusCompleted (session 64) 0x00400003#32 = some 0x00004039#32 := by decide +kernel

/-- V-B4: a `DIN` write during an UPDATE. -/
theorem test_din_write_while_busy : statusAfter running 16#7 0x12345678#32 = some 0x0000404D#32 := by decide +kernel

/-- V-C15, V-C16, V-C17: clearing an error, and the first error staying. -/
theorem test_error_clear : statusAfter withError 1#7 0x00000008#32 = some 0x00000000#32 ∧
    statusAfter withError 1#7 0xFFFFFFF7#32 = some 0x00000028#32 ∧
    statusAfter withError 0#7 0x00000004#32 = some 0x00000028#32 := by decide +kernel

/-- spec/20_memory.md R63, example: bytes `8e 94 5d a2` read 0xA25D948E. -/
theorem test_window_byte_order :
    ({ State.reset with dout := hexBlock (0x8e945da2 <<< 480) } : State).windowWord 32#7 = 0xA25D948E#32 := by decide +kernel

/-- `WAIT` stays while `BUSY` reads 1 and ends when it reads 0 (spec/30_encoding.md R97). -/
theorem test_wait : (nextOf (step { running with ops := [.wait], turns := [.host] })).map (·.ops) = some [.wait] ∧
    (nextOf (step { session 64 with ops := [.wait] })).map (·.ops) = some [] := by decide +kernel

/-- A row's word placed after reset is the next step's command: INIT 32 is accepted (spec/43_controller.md R201). -/
theorem test_withFetchWord : (nextOf (step (State.reset.withFetchWord 32 0x00002001))).map (fun t => t.work.map Work.cmd) =
    some (some (.init 32)) := by decide +kernel

/-- Asserting `rst` abandons a running command (spec/70 R280). -/
theorem test_reset_abandons : (nextOf (step { running with turns := [.reset true, .reset false] })).map
    (fun t => (t.busy, t.life, t.rst)) = some (false, .uninit, true) := by decide +kernel

/-! ## Witnesses: the hypotheses of each statement, met by a concrete state and operands -/

theorem witness_DecodeOfEncode : (Instr.init 255).wellFormed = true ∧ Instr.update.wellFormed = true ∧
    (Instr.finalize 63).wellFormed = true := by decide

theorem witness_EncodeOfDecode : decode 0x003F0003#32 = .command (.finalize 63) := by decide

theorem witness_LegalWordCount : (¬ ∃ i, decode 0x00000000#32 = .command i) ∧ State.reset.busy = false :=
  ⟨fun ⟨_, h⟩ => (by rw [show decode 0x00000000#32 = .illegal .reservedOp by decide] at h; cases h), rfl⟩

theorem witness_StepRunsDecodedCommand :
    ({ State.reset with ops := [.write 0#7 0x00002001#32] } : State).rst = false ∧
    ({ State.reset with ops := [.write 0#7 0x00002001#32] } : State).nextTurn = .host ∧
    decode 0x00002001#32 = .command (.init 32) ∧ decode 0x00000004#32 = .illegal .reservedOp := by decide

theorem witness_FetchWordRunsTableWord : decodeTableWord 32 0x003F0003 = some (.finalize 63) := by decide

theorem witness_InitCompletes : (32 = 32 ∨ 32 = 64) ∧ (64 = 32 ∨ 64 = 64) ∧ State.reset.busy = false ∧
    State.reset.rst = false ∧ ({ State.reset with turns := [.complete] } : State).turns = .complete :: [] := by decide

theorem witness_UpdateCompletes : (session 64).life = .streaming ∧ (session 64).busy = false ∧ (session 64).rst = false ∧
    ({ session 64 with turns := [.complete] } : State).turns = .complete :: [] := by decide

theorem witness_FinalizeCompletes : 0 < 64 ∧ 63 < 64 ∧ (session 32).life = .streaming ∧ (session 32).busy = false ∧
    (session 32).rst = false ∧ ({ session 32 with turns := [.complete] } : State).turns = .complete :: [] := by decide

theorem witness_CompletionCommitsAcceptedSnapshot :
    ∃ t, exec .update { session 64 with turns := [.host, .work, .complete] } = .next t ∧ t.busy = true ∧
      (session 64).busy = false ∧ (session 64).rst = false ∧
      ({ session 64 with turns := [.host, .work, .complete] } : State).turns = [.host, .work] ++ .complete :: [] ∧
      ∀ x ∈ [Turn.host, Turn.work], x = .host ∨ x = .work :=
  ⟨_, rfl, rfl, rfl, rfl, rfl, by decide⟩

theorem witness_LifecycleTable : State.reset.busy = false ∧ State.reset.err = false ∧ State.reset.life ≠ .streaming ∧
    (session 64).busy = false ∧ (session 64).err = false ∧ (session 64).life = .streaming ∧
    ¬ (48 = 32 ∨ 48 = 64) ∧ decode 0x00000000#32 = .illegal .reservedOp := by decide

theorem witness_PaddedBlock : 0 < 64 ∧ 63 < 64 ∧ 62 < 63 := by decide

theorem witness_FinalizeIgnoresUnusedBytes : (session 64).life = .streaming ∧ (session 64).busy = false ∧
    (∀ i, i < 0 → byteAt (Vector.replicate 64 0xAA#8) i = byteAt (session 64).din i) ∧
    (∀ i, i < 63 → byteAt (putWord zero64 15 0xAA000000#32) i = byteAt (session 64).din i) := by decide +kernel

theorem witness_CountersAfterUpdates : (32 = 32 ∨ 32 = 64) ∧ (64 = 32 ∨ 64 = 64) ∧ State.reset.busy = false := by decide

theorem witness_InitRejectsOtherSizes : (0 ≠ 32 ∧ 0 ≠ 64) ∧ (48 ≠ 32 ∧ 48 ≠ 64) ∧ (255 ≠ 32 ∧ 255 ≠ 64) ∧
    State.reset.busy = false := by decide

theorem witness_CommandsOutsideSessionRejected : 0 < 64 ∧ 63 < 64 ∧ State.reset.life = .uninit ∧ State.reset.busy = false ∧
    sessionOver.life = .finalized ∧ sessionOver.busy = false := by decide

theorem witness_IllegalWordsRejected : State.reset.busy = false ∧
    (0x4#32 &&& 0xF#32 ≠ 0x1#32 ∧ 0x4#32 &&& 0xF#32 ≠ 0x2#32 ∧ 0x4#32 &&& 0xF#32 ≠ 0x3#32) ∧
    (0x00402001#32 &&& 0xF#32 = 0x1#32 ∧ 0x00402001#32 &&& ~~~0x0000FF0F#32 ≠ 0#32) ∧
    (0x00010002#32 &&& 0xF#32 = 0x2#32 ∧ 0x00010002#32 &&& ~~~0x0000000F#32 ≠ 0#32) ∧
    (0x00400003#32 &&& 0xF#32 = 0x3#32 ∧ 0x00400003#32 &&& ~~~0x003F000F#32 ≠ 0#32) := by decide

theorem witness_BusyWritesRejected : running.busy = true ∧ State.reset.busy = false ∧
    State.reset.errcode ≠ some .busyViolation ∧ (16 ≤ (16#7).toNat ∧ (31#7).toNat < 32) ∧ (0#7).toNat = 0 ∧
    (1#7).toNat = 1 ∧ ((2#7).toNat ≠ 0 ∧ (2#7).toNat ≠ 1 ∧ ¬ (16 ≤ (2#7).toNat ∧ (2#7).toNat < 32)) := by decide

theorem witness_ErrorStaysUntilCleared : (∃ t, step withError = .next t) ∧ withError.err = true ∧ withError.rst = false :=
  ⟨⟨_, rfl⟩, rfl, rfl⟩

theorem witness_WindowIsLittleEndian : 0 < 16 ∧ 15 < 16 ∧ 0 < 4 ∧ 3 < 4 := by decide

theorem witness_HostReadReturns : State.reset.rst = false ∧ State.reset.busy = false ∧ running.rst = false ∧ running.busy = true ∧
    (0#7).toNat = 0 ∧ (1#7).toNat = 1 ∧ (16 ≤ (16#7).toNat ∧ (31#7).toNat < 32) ∧ (32 ≤ (32#7).toNat ∧ (47#7).toNat < 48) ∧
    (48 ≤ (48#7).toNat ∧ (63#7).toNat < 64) ∧ (64 ≤ (64#7).toNat ∧ (79#7).toNat < 80) ∧
    (80 ≤ (80#7).toNat ∧ (95#7).toNat < 96) ∧ (2 ≤ (2#7).toNat ∧ (15#7).toNat < 16) ∧ 96 ≤ (96#7).toNat := by decide

theorem witness_HostWriteEffects : State.reset.rst = false ∧ State.reset.busy = false ∧ running.rst = false ∧
    running.busy = true ∧ (0#7).toNat = 0 ∧ (1#7).toNat = 1 ∧ (16 ≤ (16#7).toNat ∧ (31#7).toNat < 32) ∧
    (2 ≤ (2#7).toNat ∧ (15#7).toNat < 16) ∧ 32 ≤ (32#7).toNat := by decide

theorem witness_DinReadsBackAsWritten : 16 ≤ (31#7).toNat ∧ (31#7).toNat < 32 ∧ State.reset.busy = false ∧ (1#7) ≠ (31#7) ∧
    ∃ t, portWrite 31#7 0x12345678#32 State.reset = .next t :=
  ⟨by decide, by decide, rfl, by decide, ⟨_, rfl⟩⟩

theorem witness_RippleCarryIsOneBit : 0 ≤ 8 ∧ 8 ≤ 8 := by decide

theorem witness_UpdatesAddModulo : 0 ≤ 64 ∧ 64 ≤ 64 := by decide

theorem witness_TableEntryIsLinearImage : 0 < 8 ∧ 7 < 8 := by decide

theorem witness_LpsDependsOnXorOnly :
    xorBlock zero64 (Vector.replicate 64 0xFF#8) = xorBlock (Vector.replicate 64 0xFF#8) zero64 := by decide +kernel

theorem witness_SequencerReachesCommittedEffect : 44 ≤ 44 ∧ 44 ≤ 100 := by decide

theorem witness_EachCompressionMakes25Lps : (Work.start .update (session 64)).stage = .seed .block ∧
    (Work.start (.finalize 63) (session 64)).stage = .seed .block := by decide

theorem witness_CommandOperationCounts : 44 ≤ 44 := by decide

theorem witness_reset_Inv : State.reset.Inv :=
  ⟨by decide, by decide, rfl, rfl, fun _ h => (by cases h), by decide⟩

theorem witness_running_Inv : running.Inv :=
  ⟨by decide, by decide, rfl, rfl, fun _ h => by cases h; rfl, by decide⟩

theorem witness_StepKeepsControlInvariant : running.Inv ∧ ∃ t, step running = .next t := ⟨witness_running_Inv, ⟨_, rfl⟩⟩

theorem witness_StepKeepsWorkingState : running.Inv ∧ running.WorkInv standardTables ∧ ∃ t, stepWith standardTables { running with turns := [.work] } = .next t :=
  ⟨witness_running_Inv, fun _ h => by cases h; exact ⟨0, rfl⟩, ⟨_, rfl⟩⟩

theorem witness_StepKeepsSessionData : running.Inv ∧ running.SessionData ∧ ∃ t, step running = .next t :=
  ⟨witness_running_Inv, ⟨fun h => (by cases h), fun _ => by decide +kernel, fun h => by cases h⟩, ⟨_, rfl⟩⟩

theorem witness_OnlyCompletionWritesResults : (∃ t, step { running with turns := [.work] } = .next t) ∧ running.rst = false ∧
    ({ running with turns := [.work] } : State).nextTurn ≠ .complete ∧
    ({ running with turns := [.work] } : State).nextTurn ≠ .reset true :=
  ⟨⟨_, rfl⟩, rfl, by decide, by decide⟩

theorem witness_OnlyHostWritesDin : ∃ t, step { State.reset with ops := [.write 16#7 0x1#32] } = .next t ∧
    State.reset.rst = false ∧ ({ State.reset with ops := [.write 16#7 0x1#32] } : State).nextTurn ≠ .reset true ∧
    t.din ≠ State.reset.din :=
  ⟨_, rfl, rfl, by decide, by decide +kernel⟩

theorem witness_BusyFollowsCommands :
    (∃ t, step { State.reset with ops := [.write 0#7 0x00002001#32] } = .next t ∧ State.reset.busy = false ∧ t.busy = true ∧
      State.reset.rst = false) ∧
    (∃ t, step running = .next t ∧ running.busy = true ∧ t.busy = false ∧ running.rst = false) :=
  ⟨⟨_, rfl, rfl, rfl, rfl⟩, ⟨_, rfl, rfl, rfl, rfl⟩⟩

theorem witness_BusyHidesRunningCommand : running.busy = true ∧
    running.SameOutsideCommand { running with h := Vector.replicate 64 0xFF#8 } ∧
    ({ running with turns := [.host] } : State).nextTurn = .host ∧ running.rst = false :=
  ⟨rfl, ⟨_, _, _, _, _, rfl⟩, rfl, rfl⟩

theorem witness_ResetSetsEveryRegister :
    ({ running with turns := [.reset true] } : State).turns = .reset true :: [] ∧
    ({ State.reset with rst := true, turns := [.reset false] } : State).turns = .reset false :: [] ∧
    ({ State.reset with rst := true, ops := [.read 48#7] } : State).nextTurn = .host ∧
    ({ State.reset with rst := true, ops := [.read 48#7] } : State).nextTurn ≠ .reset false := by decide

theorem witness_WaitTerminates : State.reset.Inv ∧ State.reset.rst = false ∧ .reset true ∉ [Turn.complete, Turn.host] ∧
    ({ State.reset with ops := [.wait] } : State).ops = .wait :: [] :=
  ⟨witness_reset_Inv, rfl, by decide, rfl⟩

theorem witness_StrictStepStopsOnError : State.reset.Inv ∧ (∃ t, step State.reset = .next t ∧ t.err = false) ∧
    (∃ t, step (State.reset.withFetchWord 32 0x00000002) = .next t ∧ t.err = true) :=
  ⟨witness_reset_Inv, ⟨_, rfl, rfl⟩, ⟨_, rfl, rfl⟩⟩

/-- Two engines, at 0x200 and at 0x600. -/
def two : Platform := [{ block := 1, engine := State.reset }, { block := 3, engine := session 64 }]

/-- The same, the second engine under reset. -/
def twoUnderReset : Platform :=
  [{ block := 1, engine := State.reset }, { block := 3, engine := { State.reset with rst := true } }]

theorem witness_BusAddressReachesWord : Platform.wf two = true ∧ two[1]? = some { block := 3, engine := session 64 } ∧
    (session 64).rst = false ∧ Platform.wf twoUnderReset = true ∧
    twoUnderReset[1]? = some { block := 3, engine := { State.reset with rst := true } } ∧
    ({ State.reset with rst := true } : State).rst = true :=
  ⟨by decide, rfl, rfl, by decide, rfl, rfl⟩

/-- spec/70 R280: a bus write to an engine under reset is lost; one at its last word index stays inside its window. -/
theorem test_bus_write_under_reset :
    Platform.access { addr := 0x640, size := 4, data := some 0x1#32 } twoUnderReset = .next twoUnderReset ∧
    Platform.access { addr := 0x7FC, size := 4, data := some 0x1#32 } twoUnderReset = .next twoUnderReset := ⟨rfl, rfl⟩

theorem witness_BusRefusesOtherAccesses : (1 ≠ 4 ∧ 2 ≠ 4 ∧ 8 ≠ 4) ∧ 0x601 % 4 ≠ 0 ∧ 0x400 % 4 = 0 ∧
    ∀ e ∈ two, ¬ (e.base ≤ 0x400 ∧ 0x400 < e.base + 0x200) := by decide

theorem witness_EnginesAreIndependent : (∃ q, Platform.stepAt standardTables 0 two = .next q) ∧ 1 ≠ 0 ∧
    (∃ q, Platform.access { addr := 0x640, size := 4, data := some 0x1#32 } two = .next q) ∧
    two[0]? = some { block := 1, engine := State.reset } ∧ ¬ (0x200 ≤ 0x640 ∧ 0x640 < 0x200 + 0x200) :=
  ⟨⟨_, rfl⟩, by decide, ⟨_, rfl⟩, rfl, by decide⟩

/-- Another table than the standard one. -/
def otherTables : Tables := { T := fun _ _ => 0#64, C := fun _ => zero64 }

theorem witness_TablesEnterOnlyThroughDatapath : (∃ t, step running = .next t) ∧
    (∃ t, stepWith otherTables running = .next t) := ⟨⟨_, rfl⟩, ⟨_, rfl⟩⟩

/-- The tables are an argument of the datapath (spec/00_scope.md R8): all-zero tables make LPS zero, the standard ones do not. -/
theorem test_lps_takes_tables : lps otherTables zero64 zero64 = zero64 ∧ lps standardTables zero64 zero64 ≠ zero64 := by
  decide +kernel

end Sys2Proof.Tests
end

section
/-! SUPPORT. Integers written in digits of `bits` bits, least significant first: `words` and `int` of spec/00_scope.md R11
are such integers, with digits of 8 and of 64 bits. -/

namespace Sys2Proof.Machine

/-- The integer whose digits in base `2 ^ bits` are `d 0` to `d (count - 1)`. -/
def digitSum (bits count : Nat) (d : Nat → BitVec bits) : Nat :=
  ((List.range count).map fun m => (d m).toNat * 2 ^ (bits * m)).sum

@[simp] theorem digitSum_zero (bits : Nat) (d : Nat → BitVec bits) : digitSum bits 0 d = 0 := rfl

theorem digitSum_succ (bits k : Nat) (d : Nat → BitVec bits) :
    digitSum bits (k + 1) d = digitSum bits k d + (d k).toNat * 2 ^ (bits * k) := by
  simp [digitSum, List.range_succ]

theorem digitSum_congr {bits count : Nat} {d d' : Nat → BitVec bits} (h : ∀ m, m < count → d m = d' m) :
    digitSum bits count d = digitSum bits count d' :=
  congrArg List.sum (List.map_congr_left fun m hm => by rw [h m (List.mem_range.1 hm)])

/-- A digit sum is Mathlib's numbering of the digit sequences, so its inverse reads the digits back. -/
theorem finFunctionFinEquiv_toFin (bits count : Nat) (d : Nat → BitVec bits) :
    (finFunctionFinEquiv fun m : Fin count => (d m).toFin).val = digitSum bits count d := by
  simp only [finFunctionFinEquiv_apply, BitVec.val_toFin, ← pow_mul]
  exact Fin.sum_univ_eq_sum_range (fun m => (d m).toNat * 2 ^ (bits * m)) count

theorem digitSum_lt (bits count : Nat) (d : Nat → BitVec bits) : digitSum bits count d < 2 ^ (bits * count) := by
  rw [← finFunctionFinEquiv_toFin, pow_mul]
  exact Fin.isLt _

/-- The digits of a digit sum are the digits it was made of. -/
theorem digit_digitSum {bits count k : Nat} (d : Nat → BitVec bits) (h : k < count) :
    digitSum bits count d / 2 ^ (bits * k) % 2 ^ bits = (d k).toNat := by
  have readBack := congrFun (finFunctionFinEquiv.symm_apply_apply fun m : Fin count => (d m).toFin) ⟨k, h⟩
  rw [← finFunctionFinEquiv_toFin, pow_mul]
  exact congrArg Fin.val readBack

/-- An integer is the sum of its digits. -/
theorem digitSum_digits {bits count v : Nat} (h : v < 2 ^ (bits * count)) :
    digitSum bits count (fun m => BitVec.ofNat bits (v / 2 ^ (bits * m))) = v := by
  have rebuild := finFunctionFinEquiv.apply_symm_apply (⟨v, by rwa [← pow_mul]⟩ : Fin ((2 ^ bits) ^ count))
  rw [← finFunctionFinEquiv_toFin]
  convert congrArg Fin.val rebuild using 4 with m
  exact Fin.ext (by simp [finFunctionFinEquiv, pow_mul])

end Sys2Proof.Machine
end

section
/-! SUPPORT. `words`, `bytes` and `int` as integers, and the two inverse laws (spec/00_scope.md R11). -/

namespace Sys2Proof.Machine

/-- A byte shifted to place `m` of a limb loses no bit. -/
theorem toNat_byte_shiftLeft (b : Byte) {m : Nat} (h : m < 8) :
    (b.setWidth 64 <<< (8 * m)).toNat = b.toNat * 2 ^ (8 * m) := by
  have fits : b.toNat * 2 ^ (8 * m) < 2 ^ 64 :=
    calc b.toNat * 2 ^ (8 * m) < 2 ^ 8 * 2 ^ (8 * m) := Nat.mul_lt_mul_of_pos_right b.isLt (by positivity)
      _ = 2 ^ (8 + 8 * m) := (pow_add 2 8 (8 * m)).symm
      _ ≤ 2 ^ 64 := Nat.pow_le_pow_right (by decide) (by omega)
  rw [BitVec.toNat_shiftLeft, BitVec.toNat_setWidth_of_le (by decide), Nat.shiftLeft_eq, Nat.mod_eq_of_lt fits]

/-- Eight shifted bytes add up in 64 bits without a carry out, so the sum is the integer they are the digits of. -/
theorem toNat_sumTo_bytes {count : Nat} (d : Nat → Byte) (h : count ≤ 8) :
    (sumTo count fun m => (d m).setWidth 64 <<< (8 * m)).toNat = digitSum 8 count d := by
  induction count with
  | zero => rfl
  | succ k ih =>
    have fits : digitSum 8 (k + 1) d < 2 ^ 64 :=
      (digitSum_lt 8 (k + 1) d).trans_le (Nat.pow_le_pow_right (by decide) (by omega))
    rw [digitSum_succ] at fits ⊢
    rw [sumTo_succ, BitVec.toNat_add, ih (by omega), toNat_byte_shiftLeft (d k) (by omega), Nat.mod_eq_of_lt fits]

/-- Limb `k` of `words(a)` is the integer of the eight bytes from `8k` on. -/
theorem toNat_limbAt_words (a : Block) {k : Nat} (h : k < 8) :
    (limbAt (words a) k).toNat = digitSum 8 8 fun m => byteAt a (8 * k + m) := by
  rw [limbAt_words a h, toNat_sumTo_bytes _ le_rfl]

/-- Byte `8k+m` of `bytes(w)` is digit `m` of limb `k`. -/
theorem byteAt_bytes_digit (w : Limbs) {k m : Nat} (hk : k < 8) (hm : m < 8) :
    byteAt (bytes w) (8 * k + m) = BitVec.ofNat 8 ((limbAt w k).toNat / 2 ^ (8 * m)) := by
  have limb : (8 * k + m) / 8 = k := by omega
  have place : (8 * k + m) % 8 = m := by omega
  apply BitVec.eq_of_toNat_eq
  rw [byteAt_bytes w (by omega), limb, place, BitVec.toNat_setWidth, BitVec.toNat_ushiftRight,
    Nat.shiftRight_eq_div_pow, BitVec.toNat_ofNat]

theorem intTo_eq_digitSum (count : Nat) (w : Limbs) : intTo count w = digitSum 64 count (limbAt w) := by
  induction count with
  | zero => rfl
  | succ k ih => rw [digitSum_succ, ← ih]; rfl

theorem bytes_words (a : Block) : bytes (words a) = a := by
  refine block_ext fun i hi => BitVec.eq_of_toNat_eq ?_
  obtain ⟨k, m, hk, hm, rfl⟩ : ∃ k m, k < 8 ∧ m < 8 ∧ i = 8 * k + m :=
    ⟨i / 8, i % 8, by omega, by omega, by omega⟩
  rw [byteAt_bytes_digit _ hk hm, BitVec.toNat_ofNat, toNat_limbAt_words a hk,
    digit_digitSum (fun m => byteAt a (8 * k + m)) hm]

theorem words_bytes (w : Limbs) : words (bytes w) = w := by
  refine limbs_ext fun k hk => BitVec.eq_of_toNat_eq ?_
  rw [toNat_limbAt_words _ hk, digitSum_congr fun m hm => byteAt_bytes_digit w hk hm]
  exact digitSum_digits (limbAt w k).isLt

/-- Settles O31: `words` and `int` are digit sums, `bytes` reads the digits, and Mathlib's numbering of digit sequences
makes reading and summing inverse. -/
theorem wordsBytesInverse : Obligations.WordsBytesInverse := by
  unfold Obligations.WordsBytesInverse
  refine ⟨fun a k hk => toNat_limbAt_words a hk, fun w k m hk hm => ?_, fun w => ?_, bytes_words, words_bytes⟩
  · rw [byteAt_bytes_digit w hk hm, BitVec.toNat_ofNat]
  · have int : intOf w = digitSum 64 8 (limbAt w) := intTo_eq_digitSum 8 w
    have bound : digitSum 64 8 (limbAt w) < 2 ^ 512 := by
      have lt := digitSum_lt 64 8 (limbAt w)
      rwa [show 64 * 8 = 512 from rfl] at lt
    exact ⟨int, int.trans_lt bound⟩

end Sys2Proof.Machine
end

section
/-! SUPPORT. Where the constant tables can show in a step (spec/00_scope.md R8, spec/10_state.md R33). -/

namespace Sys2Proof.Machine

/-- `u` differs from `t` at most in `h`, `DOUT` and the working state, and a command runs in both or in neither. -/
def State.SameButDatapath (t u : State) : Prop :=
  ∃ h dout work, u = { t with h := h, dout := dout, work := work } ∧ u.work.isSome = t.work.isSome

theorem State.SameButDatapath.refl (t : State) : t.SameButDatapath t := ⟨t.h, t.dout, t.work, rfl, rfl⟩

theorem complete_sameButDatapath (tb tb' : Tables) (s : State) :
    (s.complete tb).SameButDatapath (s.complete tb') := by
  cases running : s.work with
  | none =>
    rw [complete_of_idle tb running, complete_of_idle tb' running]
    exact .refl s
  | some w =>
    rw [complete_of_running tb running, complete_of_running tb' running, commit_tables tb' tb]
    exact ⟨_, _, none, rfl, rfl⟩

theorem workOn_sameButDatapath (tb tb' : Tables) (s : State) :
    (s.workOn tb).SameButDatapath (s.workOn tb') :=
  ⟨s.h, s.dout, _, rfl, by simp⟩

/-- Of the four turns only the engine's own two read the tables. -/
theorem runTurn_sameButDatapath (tb tb' : Tables) {turn : Turn} {s t : State} (step : runTurn tb turn s = .next t) :
    ∃ u, runTurn tb' turn s = .next u ∧ t.SameButDatapath u := by
  cases turn with
  | host => exact ⟨t, step, .refl t⟩
  | reset level => exact ⟨t, step, .refl t⟩
  | complete =>
    cases step
    exact ⟨_, rfl, complete_sameButDatapath tb tb' s⟩
  | work =>
    cases step
    exact ⟨_, rfl, workOn_sameButDatapath tb tb' s⟩

/-- Settles O60: the turn taken does not depend on the tables, and no turn lets them reach another register. -/
theorem tablesEnterOnlyThroughDatapath : Obligations.TablesEnterOnlyThroughDatapath := by
  unfold Obligations.TablesEnterOnlyThroughDatapath
  intro tables s t stepped
  obtain ⟨u, hu, h, dout, work, eq, running⟩ := runTurn_sameButDatapath standardTables tables stepped
  exact ⟨u, h, dout, work, hu, eq, running⟩

end Sys2Proof.Machine
end

section
/-! SUPPORT. Everything a step can do, said once: a host access that leaves the engine alone, a write of the port, a completion,
hidden work, or the reset input (spec/20_memory.md R69, spec/70_reset_and_hazards.md R280). -/

namespace Sys2Proof.Machine

/-! ### States that differ outside the engine only -/

/-- `t` is `s` but for the read data and the model's account of the host: every register, the working state and `rst` are
the same. -/
def State.SameEngine (s t : State) : Prop :=
  ∃ rdata ops turns draws, t = { s with rdata := rdata, ops := ops, turns := turns, draws := draws }

theorem State.SameEngine.refl (s : State) : s.SameEngine s := ⟨s.rdata, s.ops, s.turns, s.draws, rfl⟩

theorem State.SameEngine.trans {s t u : State} (hst : s.SameEngine t) (htu : t.SameEngine u) : s.SameEngine u := by
  obtain ⟨_, _, _, _, rfl⟩ := hst
  obtain ⟨_, _, _, _, rfl⟩ := htu
  exact ⟨_, _, _, _, rfl⟩

theorem takeTurn_sameEngine (s : State) : s.SameEngine s.takeTurn := ⟨_, _, _, _, rfl⟩

theorem withOps_sameEngine (ops : List HostOp) (s : State) : s.SameEngine (s.withOps ops) := ⟨_, _, _, _, rfl⟩

theorem takeTurn_withOps_sameEngine (ops : List HostOp) (s : State) : s.SameEngine (s.takeTurn.withOps ops) :=
  (takeTurn_sameEngine s).trans (withOps_sameEngine ops _)

theorem read_sameEngine (widx : WordIndex) (s : State) : s.SameEngine (s.read widx) :=
  ⟨_, _, _, _, read_eq widx s⟩

theorem waitPoll_sameEngine (s : State) : s.SameEngine s.waitPoll := by
  simp only [State.waitPoll]
  split
  · exact (read_sameEngine 1#7 s).trans (withOps_sameEngine _ _)
  · exact read_sameEngine 1#7 s

/-! ### A write of the port -/

/-- Everything a write of word `widx` can do (spec/20_memory.md R65), with the word it takes. -/
inductive WrittenAt (widx : WordIndex) (v : Word) (s t : State) : Prop where
  | ignored (eq : t = s)
  | rejected (e : Error) (eq : t = s.raise e)
  | accepted (i : Instr) (cmd : widx = 0#7) (valid : firstError v s = none) (idle : s.busy = false)
      (legal : acceptable i s) (eq : t = s.accept i)
  | cleared (status : widx = 1#7) (bit : v.getLsbD 3 = true) (eq : t = s.clearError)
  | din (first : 16 ≤ widx.toNat) (last : widx.toNat < 32) (idle : s.busy = false)
      (eq : t = { s with din := putWord s.din (widx.toNat - 16) v })

/-- A command outside its lifecycle state, or of a size there is none of, is reported (spec/43_controller.md R201). -/
theorem exec_init_rejected {size : Nat} {s : State} (idle : s.busy = false) (other : ¬ (size = 32 ∨ size = 64)) :
    exec (.init size) s = .next (s.raise .invalidOutputSize) := by
  simp [exec, execInit, State.issue, sizeObjection, idle, other]

theorem exec_update_rejected {s : State} (idle : s.busy = false) (outside : s.life ≠ .streaming) :
    exec .update s = .next (s.raise .illegalState) := by
  simp [exec, execUpdate, State.issue, stateObjection, idle, outside]

theorem exec_finalize_rejected (pos : Nat) {s : State} (idle : s.busy = false) (outside : s.life ≠ .streaming) :
    exec (.finalize pos) s = .next (s.raise .illegalState) := by
  simp [exec, execFinalize, State.issue, stateObjection, idle, outside]

theorem issueCommand_illegal {v : Word} {why : Illegal} {s : State} (idle : s.busy = false) (illegal : decode v = .illegal why) :
    issueCommand v s = .next (s.raise .illegalCommand) := by
  simp [issueCommand, illegal, State.issueIllegal, idle]

theorem issueCommand_of_busy (v : Word) {s : State} (busy : s.busy = true) :
    issueCommand v s = .next (s.raise .busyViolation) := by
  unfold issueCommand
  split
  next i decoded => cases i <;> simp [exec, execInit, execUpdate, execFinalize, State.issue, busy]
  next => simp [State.issueIllegal, busy]

/-- A `CMD` write to which an error applies reports the first one that does (spec/60_exceptions.md R255). -/
theorem issueCommand_of_firstError {v : Word} {s : State} {e : Error} (h : firstError v s = some e) :
    issueCommand v s = .next (s.raise e) := by
  cases busy : s.busy with
  | true =>
    obtain rfl : .busyViolation = e := by simpa [firstError, commandChecks, busy] using h
    exact issueCommand_of_busy v busy
  | false =>
    cases decoded : decode v with
    | illegal why =>
      obtain rfl : .illegalCommand = e := by simpa [firstError, commandChecks, busy, decoded] using h
      exact issueCommand_illegal busy decoded
    | command i =>
      simp only [issueCommand, decoded]
      cases i with
      | init size =>
        obtain ⟨other, rfl⟩ : ¬ (size = 32 ∨ size = 64) ∧ .invalidOutputSize = e := by
          simpa [firstError, commandChecks, busy, decoded] using h
        exact exec_init_rejected busy other
      | update =>
        obtain ⟨outside, rfl⟩ : s.life ≠ .streaming ∧ .illegalState = e := by
          simpa [firstError, commandChecks, busy, decoded, em] using h
        exact exec_update_rejected busy outside
      | finalize pos =>
        obtain ⟨outside, rfl⟩ : s.life ≠ .streaming ∧ .illegalState = e := by
          simpa [firstError, commandChecks, busy, decoded, em] using h
        exact exec_finalize_rejected pos busy outside

theorem issueCommand_writtenAt {widx : WordIndex} (v : Word) (s : State) (cmd : widx = 0#7) :
    ∃ t, issueCommand v s = .next t ∧ WrittenAt widx v s t := by
  cases first : firstError v s with
  | some e => exact ⟨_, issueCommand_of_firstError first, .rejected e rfl⟩
  | none =>
    obtain ⟨t, ht, issued⟩ := issueCommand_cases v s
    refine ⟨t, ht, ?_⟩
    cases issued with
    | rejected e eq => exact .rejected e eq
    | accepted i idle legal eq => exact .accepted i cmd first idle legal eq

theorem portWrite_writtenAt (widx : WordIndex) (v : Word) (s : State) :
    ∃ t, portWrite widx v s = .next t ∧ WrittenAt widx v s t := by
  unfold portWrite
  split
  next cmd => exact issueCommand_writtenAt v s (BitVec.eq_of_toNat_eq cmd)
  next =>
    split
    next status =>
      refine ⟨_, rfl, ?_⟩
      unfold State.writeStatus
      split
      next bit => exact .cleared (BitVec.eq_of_toNat_eq status) bit rfl
      next => exact .ignored rfl
    next =>
      split
      next window =>
        refine ⟨_, rfl, ?_⟩
        unfold State.writeDin
        split
        next => exact .rejected .busyViolation rfl
        next idle => exact .din window.1 window.2 (by simpa using idle) rfl
      next => exact ⟨_, rfl, .ignored rfl⟩

/-! ### The host's turn and the whole step -/

/-- Everything a step can do. While `rst` is asserted the turn starts from the registers at their reset values,
`s.holdReset`. -/
inductive Stepped (tables : Tables) (s t : State) : Prop where
  /-- The host has no operation left, reads, polls, or writes under `rst` in vain; or a reset input that is low goes low. -/
  | quiet (same : s.holdReset.SameEngine t)
  | write (turn : s.nextTurn = .host) (low : s.rst = false) (widx : WordIndex) (v : Word) (rest : List HostOp)
      (ops : s.ops = .write widx v :: rest) (written : WrittenAt widx v (s.takeTurn.withOps rest) t)
  | complete (turn : s.nextTurn = .complete) (eq : t = s.holdReset.takeTurn.complete tables)
  | work (turn : s.nextTurn = .work) (eq : t = s.holdReset.takeTurn.workOn tables)
  /-- The reset input goes high, or comes down. -/
  | reset (level : Bool) (turn : s.nextTurn = .reset level) (edge : level = true ∨ s.rst = true)
      (eq : t = { s.takeTurn.resetRegisters with rst := level })

/-- A host operation other than a write that the port accepts touches no register. -/
theorem runOp_sameEngine {op : HostOp} {s : State} (h : ∀ widx v, op = .write widx v → s.rst = true) :
    ∃ t, runOp op s = .next t ∧ s.SameEngine t := by
  cases op with
  | write widx v => exact ⟨s, by simp [runOp, h widx v rfl], .refl s⟩
  | read widx => exact ⟨_, rfl, read_sameEngine widx s⟩
  | wait => exact ⟨_, rfl, waitPoll_sameEngine s⟩

theorem hostTurn_of_ops {s : State} {op : HostOp} {rest : List HostOp} (h : s.ops = op :: rest) :
    s.hostTurn = runOp op (s.withOps rest) := by
  simp [State.hostTurn, h]

theorem stepWith_host_stepped (tb : Tables) {s : State} (turn : s.nextTurn = .host) :
    ∃ t, s.holdReset.takeTurn.hostTurn = .next t ∧ Stepped tb s t := by
  cases ops : s.ops with
  | nil => exact ⟨_, by simp [State.hostTurn, ops], .quiet (takeTurn_sameEngine _)⟩
  | cons op rest =>
    rw [hostTurn_of_ops (show s.holdReset.takeTurn.ops = op :: rest by simp [ops])]
    by_cases accepted : ∃ widx v, op = .write widx v ∧ s.rst = false
    · obtain ⟨widx, v, rfl, low⟩ := accepted
      obtain ⟨t, ht, written⟩ := portWrite_writtenAt widx v (s.takeTurn.withOps rest)
      refine ⟨t, ?_, .write turn low widx v rest ops written⟩
      simpa [runOp, holdReset_of_low low, low] using ht
    · obtain ⟨t, ht, same⟩ := runOp_sameEngine (op := op) (s := s.holdReset.takeTurn.withOps rest) fun widx v eq => by
        simpa using fun low => accepted ⟨widx, v, eq, low⟩
      exact ⟨t, ht, .quiet ((takeTurn_withOps_sameEngine rest _).trans same)⟩

/-- The reset input going to a level puts the registers at their reset values, unless it is low and stays low. -/
theorem stepWith_reset (tb : Tables) {s : State} {level : Bool} (turn : s.nextTurn = .reset level)
    (edge : level = true ∨ s.rst = true) : stepWith tb s = .next { s.takeTurn.resetRegisters with rst := level } := by
  have held : s.holdReset.takeTurn.resetRegisters = s.takeTurn.resetRegisters := by
    unfold State.holdReset; split <;> rfl
  simp [stepWith, turn, runTurn, State.driveReset, edge, held]

theorem stepWith_release_low (tb : Tables) {s : State} (turn : s.nextTurn = .reset false) (low : s.rst = false) :
    stepWith tb s = .next s.takeTurn := by
  simp [stepWith_of_low tb low, turn, runTurn, State.driveReset, low]

/-- Every step answers a next state, by one of the cases of `Stepped`. -/
theorem stepWith_stepped (tb : Tables) (s : State) : ∃ t, stepWith tb s = .next t ∧ Stepped tb s t := by
  cases turn : s.nextTurn with
  | host =>
    simp only [stepWith, turn]
    exact stepWith_host_stepped tb turn
  | complete => exact ⟨_, by rw [stepWith, turn]; rfl, .complete turn rfl⟩
  | work => exact ⟨_, by rw [stepWith, turn]; rfl, .work turn rfl⟩
  | reset level =>
    by_cases edge : level = true ∨ s.rst = true
    · exact ⟨_, stepWith_reset tb turn edge, .reset level turn edge rfl⟩
    · obtain ⟨rfl, low⟩ : level = false ∧ s.rst = false := by simpa using edge
      exact ⟨_, stepWith_release_low tb turn low, .quiet (by rw [holdReset_of_low low]; exact takeTurn_sameEngine s)⟩

theorem stepped_of_stepWith {tb : Tables} {s t : State} (h : stepWith tb s = .next t) : Stepped tb s t := by
  obtain ⟨u, hu, stepped⟩ := stepWith_stepped tb s
  cases h.symm.trans hu
  exact stepped

theorem stepped_of_step {s t : State} (h : step s = .next t) : Stepped standardTables s t := stepped_of_stepWith h

end Sys2Proof.Machine
end

section
/-! SUPPORT. The control invariant (spec/10_state.md R26, R27, R36): what each kind of step keeps of it. -/

namespace Sys2Proof.Machine

theorem acceptable_congr (i : Instr) {s t : State} (life : t.life = s.life) : acceptable i t ↔ acceptable i s := by
  cases i <;> simp [acceptable, life]

/-- The invariant says nothing of the read data and the model's account of the host. -/
theorem State.Inv.sameEngine {s t : State} (inv : s.Inv) (same : s.SameEngine t) : t.Inv := by
  obtain ⟨rdata, ops, turns, draws, rfl⟩ := same
  exact {
    session := inv.session
    sizes := inv.sizes
    error := inv.error
    running := inv.running
    accepted := fun w hw => (acceptable_congr w.cmd rfl).2 (inv.accepted w hw)
    underReset := fun high =>
      congrArg (fun u : State => { u with rdata := rdata, ops := ops, turns := turns, draws := draws }) (inv.underReset high) }

/-- While `rst` is not asserted, a change outside `STATE` and `OUTSIZE` has only the error and the running command to answer
for. -/
theorem State.Inv.of_sameSession {s t : State} (inv : s.Inv) (low : t.rst = false) (life : t.life = s.life)
    (outsize : t.outsize = s.outsize) (error : t.err = t.errcode.isSome) (running : t.busy = t.work.isSome)
    (accepted : ∀ w, t.work = some w → acceptable w.cmd s) : t.Inv where
  session := by rw [life, outsize]; exact inv.session
  sizes := by rw [life, outsize]; exact inv.sizes
  error := error
  running := running
  accepted := fun w hw => (acceptable_congr w.cmd life).2 (accepted w hw)
  underReset := by simp [low]

/-- Under the invariant the registers are already where `rst` holds them. -/
theorem State.Inv.holdReset_eq {s : State} (inv : s.Inv) : s.holdReset = s := by
  cases rst : s.rst with
  | false => exact holdReset_of_low rst
  | true => rw [holdReset_of_high rst, inv.underReset rst]

theorem State.Inv.low_of_running {s : State} {w : Work} (inv : s.Inv) (running : s.work = some w) : s.rst = false := by
  cases rst : s.rst with
  | false => rfl
  | true =>
    have idle : s.work = none := by rw [← inv.underReset rst]; rfl
    simp [idle] at running

theorem State.Inv.idle {s : State} (inv : s.Inv) (busy : s.busy = false) : s.work = none :=
  Option.not_isSome_iff_eq_none.1 (by simp [← inv.running, busy])

theorem inv_of_resetRegisters (s : State) (level : Bool) : State.Inv { s.resetRegisters with rst := level } where
  session := by simp
  sizes := by simp
  error := rfl
  running := rfl
  accepted := by simp
  underReset := fun _ => rfl

theorem WrittenAt.inv {widx : WordIndex} {v : Word} {s t : State} (written : WrittenAt widx v s t) (inv : s.Inv)
    (low : s.rst = false) : t.Inv := by
  cases written with
  | ignored eq => rwa [eq]
  | rejected e eq =>
    subst eq
    exact inv.of_sameSession (by simpa) (by simp) (by simp) (raise_agrees e inv.error) (by simpa using inv.running)
      (by simpa using inv.accepted)
  | accepted i cmd valid idle legal eq =>
    subst eq
    refine inv.of_sameSession low rfl rfl inv.error rfl fun w hw => ?_
    cases hw
    simpa using legal
  | cleared status bit eq =>
    subst eq
    exact inv.of_sameSession low rfl rfl rfl inv.running inv.accepted
  | din first last idle eq =>
    subst eq
    exact inv.of_sameSession low rfl rfl inv.error inv.running inv.accepted

/-- A command that was acceptable leaves a session behind it, with a size of 32 or 64. -/
theorem commit_session (tb : Tables) {i : Instr} {s : State} (inv : s.Inv) (legal : acceptable i s) :
    (s.commit tb i).life ≠ .uninit ∧ ((s.commit tb i).outsize = 32#8 ∨ (s.commit tb i).outsize = 64#8) := by
  cases i with
  | init size =>
    refine ⟨by simp [State.commit], ?_⟩
    obtain rfl | rfl := legal
    · exact .inl rfl
    · exact .inr rfl
  | update =>
    have opened : s.life ≠ .uninit := by simp [show s.life = .streaming from legal]
    exact ⟨opened, inv.sizes opened⟩
  | finalize pos =>
    have opened : s.life ≠ .uninit := by simp [legal.2]
    exact ⟨by simp [State.commit], inv.sizes opened⟩

theorem State.Inv.complete (tb : Tables) {s : State} (inv : s.Inv) : (s.complete tb).Inv := by
  cases running : s.work with
  | none => rwa [complete_of_idle tb running]
  | some w =>
    obtain ⟨life, size⟩ := commit_session tb inv (inv.accepted w running)
    rw [complete_of_running tb running]
    exact {
      session := by obtain size | size := size <;> simp [life, size]
      sizes := fun _ => size
      error := by simpa using inv.error
      running := rfl
      accepted := by simp
      underReset := by simp [inv.low_of_running running] }

theorem workOn_of_idle (tb : Tables) {s : State} (idle : s.work = none) : s.workOn tb = s := by
  cases s
  cases idle
  rfl

theorem State.Inv.workOn (tb : Tables) {s : State} (inv : s.Inv) : (s.workOn tb).Inv := by
  cases running : s.work with
  | none => rwa [workOn_of_idle tb running]
  | some w =>
    refine inv.of_sameSession (inv.low_of_running running) rfl rfl inv.error (by simpa using inv.running) fun x hx => ?_
    obtain rfl : w.advance tb = x := by simpa [running] using hx
    simpa using inv.accepted w running

theorem Stepped.inv {tb : Tables} {s t : State} (stepped : Stepped tb s t) (inv : s.Inv) : t.Inv := by
  have taken : s.holdReset.takeTurn.Inv := by
    rw [inv.holdReset_eq]; exact inv.sameEngine (takeTurn_sameEngine s)
  cases stepped with
  | quiet same => exact inv.sameEngine (inv.holdReset_eq ▸ same)
  | write turn low widx v rest ops written =>
    exact written.inv (inv.sameEngine (takeTurn_withOps_sameEngine rest s)) low
  | complete turn eq => exact eq ▸ taken.complete tb
  | work turn eq => exact eq ▸ taken.workOn tb
  | reset level turn edge eq => exact eq ▸ inv_of_resetRegisters s.takeTurn level

/-- Settles O47: each kind of step keeps the invariant. -/
theorem stepKeepsControlInvariant : Obligations.StepKeepsControlInvariant := by
  unfold Obligations.StepKeepsControlInvariant
  exact fun s t inv step => (stepped_of_step step).inv inv

end Sys2Proof.Machine
end

section
/-! SUPPORT. The working state of a running command (spec/10_state.md R32, spec/20_memory.md R72): what each kind of step keeps of
it. -/

namespace Sys2Proof.Machine

theorem workInv_of_idle (tb : Tables) {s : State} (idle : s.work = none) : s.WorkInv tb := by
  simp [State.WorkInv, idle]

/-- The working state answers only for the registers its command was accepted on. -/
theorem State.WorkInv.congr {tb : Tables} {s t : State} (inv : s.WorkInv tb) (work : t.work = s.work) (h : t.h = s.h)
    (n : t.n = s.n) (sigma : t.sigma = s.sigma) (din : t.din = s.din) : t.WorkInv tb := by
  intro w running
  rw [start_congr w.cmd h n sigma din]
  exact inv w (work ▸ running)

theorem State.WorkInv.sameEngine {tb : Tables} {s t : State} (inv : s.WorkInv tb) (same : s.SameEngine t) :
    t.WorkInv tb := by
  obtain ⟨_, _, _, _, rfl⟩ := same
  exact inv.congr rfl rfl rfl rfl rfl

theorem WrittenAt.workInv {tb : Tables} {widx : WordIndex} {v : Word} {s t : State} (written : WrittenAt widx v s t)
    (inv : s.Inv) (work : s.WorkInv tb) : t.WorkInv tb := by
  cases written with
  | ignored eq => rwa [eq]
  | rejected e eq => subst eq; exact work.congr (by simp) (by simp) (by simp) (by simp) (by simp)
  | accepted i cmd valid idle legal eq =>
    subst eq
    intro w running
    cases running
    exact ⟨0, by simp [start_congr i (accept_h i s) (accept_n i s) (accept_sigma i s) (accept_din i s)]⟩
  | cleared status bit eq => subst eq; exact work.congr rfl rfl rfl rfl rfl
  | din first last idle eq => subst eq; exact workInv_of_idle tb (inv.idle idle)

theorem complete_work (tb : Tables) (s : State) : (s.complete tb).work = none := by
  cases running : s.work with
  | none => rw [complete_of_idle tb running, running]
  | some w => rw [complete_of_running tb running]

theorem State.WorkInv.workOn {tb : Tables} {s : State} (inv : s.WorkInv tb) : (s.workOn tb).WorkInv tb := by
  intro x running
  obtain ⟨w, hw, rfl⟩ : ∃ w, s.work = some w ∧ w.advance tb = x := by simpa using running
  obtain ⟨k, hk⟩ := inv w hw
  refine ⟨k + 1, ?_⟩
  rw [advance_cmd, start_congr w.cmd (workOn_h tb s) (workOn_n tb s) (workOn_sigma tb s) (workOn_din tb s),
    advanceBy_succ, ← hk]

theorem Stepped.workInv {tb : Tables} {s t : State} (stepped : Stepped tb s t) (inv : s.Inv) (work : s.WorkInv tb) :
    t.WorkInv tb := by
  have taken : s.holdReset.takeTurn.WorkInv tb := by
    rw [inv.holdReset_eq]; exact work.sameEngine (takeTurn_sameEngine s)
  cases stepped with
  | quiet same => exact work.sameEngine (inv.holdReset_eq ▸ same)
  | write turn low widx v rest ops written =>
    have same := takeTurn_withOps_sameEngine rest s
    exact written.workInv (inv.sameEngine same) (work.sameEngine same)
  | complete turn eq => exact workInv_of_idle tb (eq ▸ complete_work tb _)
  | work turn eq => exact eq ▸ taken.workOn
  | reset level turn edge eq => exact eq ▸ workInv_of_idle tb rfl

/-- Settles O48: acceptance starts the work, a move takes it one further, and a `DIN` write finds none. -/
theorem stepKeepsWorkingState : Obligations.StepKeepsWorkingState := by
  unfold Obligations.StepKeepsWorkingState
  exact fun tables s t inv work step => (stepped_of_stepWith step).workInv inv work

end Sys2Proof.Machine
end

section
/-! SUPPORT. The two updates as additions of integers modulo `2^512` (spec/42_adder.md R180 to R183). -/

namespace Sys2Proof.Machine

/-- The two registers `adc` leaves hold the exact sum: 128 bits are wide enough for it. -/
theorem adc_exact (limb addend carry : Limb) :
    (adc limb addend carry).limb.toNat + 2 ^ 64 * (adc limb addend carry).carry.toNat =
      limb.toNat + addend.toNat + carry.toNat := by
  have l := limb.isLt
  have a := addend.isLt
  have c := carry.isLt
  simp only [adc, BitVec.extractLsb'_toNat, BitVec.toNat_add, BitVec.toNat_setWidth, Nat.shiftRight_eq_div_pow]
  omega

theorem limbAt_rippleAdd (x y : Limbs) {k : Nat} (h : k < 8) :
    limbAt (rippleAdd x y) k = (adc (limbAt x k) (limbAt y k) (carryInto x y k)).limb := by
  simp [limbAt, rippleAdd, h]

/-- The limbs below `k` of a ripple and the carry into limb `k` make up the exact sum of the limbs below `k`. -/
theorem intTo_rippleAdd (x y : Limbs) {k : Nat} (h : k ≤ 8) :
    intTo k (rippleAdd x y) + (carryInto x y k).toNat * 2 ^ (64 * k) = intTo k x + intTo k y := by
  induction k with
  | zero => rfl
  | succ i ih =>
    have sum := adc_exact (limbAt x i) (limbAt y i) (carryInto x y i)
    calc intTo i (rippleAdd x y) + (limbAt (rippleAdd x y) i).toNat * 2 ^ (64 * i)
          + (carryInto x y (i + 1)).toNat * 2 ^ (64 * (i + 1))
        = intTo i (rippleAdd x y) + ((limbAt x i).toNat + (limbAt y i).toNat + (carryInto x y i).toNat) * 2 ^ (64 * i) := by
          rw [limbAt_rippleAdd x y h, carryInto, ← sum]; ring
      _ = intTo i x + (limbAt x i).toNat * 2 ^ (64 * i) + (intTo i y + (limbAt y i).toNat * 2 ^ (64 * i)) := by
          linarith [ih (by omega)]

theorem intOf_lt (w : Limbs) : intOf w < 2 ^ 512 := by
  have lt := digitSum_lt 64 8 (limbAt w)
  rw [show 64 * 8 = 512 from rfl] at lt
  rwa [intOf, intTo_eq_digitSum]

theorem intOf_rippleAdd (x y : Limbs) : intOf (rippleAdd x y) = (intOf x + intOf y) % 2 ^ 512 := by
  have sum := intTo_rippleAdd x y le_rfl
  rw [show 64 * 8 = 512 from rfl] at sum
  have bound := intOf_lt (rippleAdd x y)
  unfold intOf at bound ⊢
  rw [← sum, Nat.add_mul_mod_self_right, Nat.mod_eq_of_lt bound]

theorem limbAt_bitCount (len k : Nat) : limbAt (bitCount len) k = if k = 0 then BitVec.ofNat 64 (8 * len) else 0#64 := by
  by_cases h : k < 8
  · simp [limbAt, bitCount, h]
  · simp [limbAt, h, show k ≠ 0 by omega]

theorem intTo_bitCount {len : Nat} (h : len ≤ 64) (k : Nat) : intTo (k + 1) (bitCount len) = 8 * len := by
  induction k with
  | zero => simp [intTo, limbAt_bitCount]; omega
  | succ k ih => rw [intTo, ih, limbAt_bitCount]; simp

theorem intOf_updateN (n : Limbs) {len : Nat} (h : len ≤ 64) : intOf (updateN n len) = (intOf n + 8 * len) % 2 ^ 512 := by
  rw [updateN, intOf_rippleAdd, show intOf (bitCount len) = 8 * len from intTo_bitCount h 7]

theorem intOf_updateSigma (sigma : Limbs) (block : Block) :
    intOf (updateSigma sigma block) = (intOf sigma + intOf (words block)) % 2 ^ 512 := by
  rw [updateSigma, intOf_rippleAdd]

theorem intTo_replicate_zero (k : Nat) : intTo k (Vector.replicate 8 0#64) = 0 := by
  induction k with
  | zero => rfl
  | succ k ih => rw [intTo, ih]; simp [limbAt]

/-- Limb 0 has the whole byte count added to it, with no carry in. -/
theorem toNat_limbAt_updateN_zero (n : Limbs) (len : Nat) :
    (limbAt (updateN n len) 0).toNat = ((limbAt n 0).toNat + 8 * len) % 2 ^ 64 := by
  have sum := adc_exact (limbAt n 0) (BitVec.ofNat 64 (8 * len)) 0#64
  have bound := (adc (limbAt n 0) (BitVec.ofNat 64 (8 * len)) 0#64).limb.isLt
  rw [updateN, limbAt_rippleAdd _ _ (by decide), limbAt_bitCount, if_pos rfl, carryInto]
  rw [BitVec.toNat_ofNat, BitVec.toNat_ofNat] at sum
  omega

end Sys2Proof.Machine
end

section
/-! SUPPORT. The registers that only commands and reset write (spec/10_state.md R20 to R25, R29): which steps change them, and what
each lifecycle state says of them. -/

namespace Sys2Proof.Machine

/-! ### The result registers -/

theorem State.SameEngine.sameResults {s t : State} (same : s.SameEngine t) : State.sameResults s t := by
  obtain ⟨_, _, _, _, rfl⟩ := same
  exact ⟨rfl, rfl, rfl, rfl, rfl, rfl⟩

theorem sameResults_trans {s t u : State} (hst : State.sameResults s t) (htu : State.sameResults t u) :
    State.sameResults s u := by
  obtain ⟨h, n, sigma, outsize, life, dout⟩ := hst
  obtain ⟨h', n', sigma', outsize', life', dout'⟩ := htu
  exact ⟨h'.trans h, n'.trans n, sigma'.trans sigma, outsize'.trans outsize, life'.trans life, dout'.trans dout⟩

theorem WrittenAt.sameResults {widx : WordIndex} {v : Word} {s t : State} (written : WrittenAt widx v s t) :
    State.sameResults s t := by
  cases written with
  | ignored eq => subst eq; exact (State.SameEngine.refl t).sameResults
  | rejected e eq => subst eq; exact ⟨by simp, by simp, by simp, by simp, by simp, by simp⟩
  | accepted i cmd valid idle legal eq => subst eq; exact ⟨rfl, rfl, rfl, rfl, rfl, rfl⟩
  | cleared status bit eq => subst eq; exact ⟨rfl, rfl, rfl, rfl, rfl, rfl⟩
  | din first last idle eq => subst eq; exact ⟨rfl, rfl, rfl, rfl, rfl, rfl⟩

/-- Settled registers (`s.holdReset = s`) in a step: the result registers are kept, or a completion or a reset writes them. -/
theorem Stepped.sameResults {tb : Tables} {s t : State} (stepped : Stepped tb s t) (settled : s.holdReset = s) :
    State.sameResults s t ∨
    (s.nextTurn = .complete ∧ t = s.takeTurn.complete tb) ∨
    ∃ level, s.nextTurn = .reset level ∧ (level = true ∨ s.rst = true) ∧
      t = { s.takeTurn.resetRegisters with rst := level } := by
  cases stepped with
  | quiet same => exact .inl (settled ▸ same).sameResults
  | write turn low widx v rest ops written =>
    exact .inl (sameResults_trans (takeTurn_withOps_sameEngine rest s).sameResults written.sameResults)
  | complete turn eq => exact .inr (.inl ⟨turn, settled ▸ eq⟩)
  | work turn eq => rw [eq, settled]; exact .inl (takeTurn_sameEngine s).sameResults
  | reset level turn edge eq => exact .inr (.inr ⟨level, turn, edge, eq⟩)

/-- Settles O50: with `rst` low the registers are settled, so only a completion or a reset turn to the high level is left. -/
theorem onlyCompletionWritesResults : Obligations.OnlyCompletionWritesResults := by
  unfold Obligations.OnlyCompletionWritesResults
  intro s t step low notComplete notReset
  obtain same | ⟨turn, -⟩ | ⟨level, turn, high | high, -⟩ := (stepped_of_step step).sameResults (holdReset_of_low low)
  · exact same
  · exact absurd turn notComplete
  · exact absurd (high ▸ turn) notReset
  · simp [low] at high

/-! ### What each lifecycle state says of them -/

theorem State.SessionData.congr {s t : State} (data : s.SessionData) (same : State.sameResults s t) : t.SessionData := by
  obtain ⟨h, n, sigma, outsize, life, dout⟩ := same
  constructor
  · rw [life, h, n, sigma, dout]; exact data.fresh
  · rw [life, n, dout]; exact data.streaming
  · rw [life, h, outsize, dout]; exact data.finalized

theorem words_zero64 : words zero64 = Vector.replicate 8 0#64 := by
  refine limbs_ext fun k hk => ?_
  rw [limbAt_words _ hk]
  simp [limbAt]

theorem sessionData_of_resetRegisters (s : State) (level : Bool) :
    State.SessionData { s.resetRegisters with rst := level } where
  fresh := by simp [words_zero64]
  streaming := by simp
  finalized := by simp

theorem sessionData_commit (tb : Tables) {i : Instr} {s : State} (legal : acceptable i s) (data : s.SessionData) :
    (s.commit tb i).SessionData := by
  cases i with
  | init size => exact ⟨by simp [State.commit], fun _ => ⟨rfl, by simp [State.commit, limbAt]⟩, by simp [State.commit]⟩
  | update =>
    have life : (s.commit tb .update).life = .streaming := legal
    obtain ⟨dout, whole⟩ := data.streaming legal
    refine ⟨by simp [life], fun _ => ⟨dout, ?_⟩, by simp [life]⟩
    have limb : (limbAt (s.commit tb .update).n 0).toNat = _ := toNat_limbAt_updateN_zero s.n 64
    omega
  | finalize pos => exact ⟨by simp [State.commit], by simp [State.commit], fun _ => commitFinalize_dout tb pos s⟩

theorem State.SessionData.complete (tb : Tables) {s : State} (inv : s.Inv) (data : s.SessionData) :
    (s.complete tb).SessionData := by
  cases running : s.work with
  | none => rwa [complete_of_idle tb running]
  | some w =>
    rw [complete_of_running tb running]
    exact (sessionData_commit tb (inv.accepted w running) data).congr ⟨rfl, rfl, rfl, rfl, rfl, rfl⟩

/-- Settles O49: the registers are settled under the control invariant, and a completion or a reset leaves what the new
lifecycle state asks for. -/
theorem stepKeepsSessionData : Obligations.StepKeepsSessionData := by
  unfold Obligations.StepKeepsSessionData
  intro s t inv data step
  obtain same | ⟨-, eq⟩ | ⟨level, -, -, eq⟩ := (stepped_of_step step).sameResults inv.holdReset_eq
  · exact data.congr same
  · have taken := takeTurn_sameEngine s
    exact eq ▸ (data.congr taken.sameResults).complete standardTables (inv.sameEngine taken)
  · exact eq ▸ sessionData_of_resetRegisters s.takeTurn level

/-- Settles O46: the state after reset has its registers at their reset values. -/
theorem resetMeetsInvariants : Obligations.ResetMeetsInvariants := by
  unfold Obligations.ResetMeetsInvariants
  exact ⟨inv_of_resetRegisters State.reset false, fun tables => workInv_of_idle tables rfl,
    sessionData_of_resetRegisters State.reset false⟩

end Sys2Proof.Machine
end

section
/-! SUPPORT. Which steps change the error, `DIN` and `BUSY` (spec/10_state.md R26 to R28), and what reset leaves (R38,
spec/70_reset_and_hazards.md R280). -/

namespace Sys2Proof.Machine

/-! ### The error -/

/-- Settles O25: no kind of step but a `STATUS` write with bit 3 set and a reset takes a recorded error away. -/
theorem errorStaysUntilCleared : Obligations.ErrorStaysUntilCleared := by
  unfold Obligations.ErrorStaysUntilCleared
  intro s t step err low
  have settled := holdReset_of_low low
  cases stepped_of_step step with
  | quiet same =>
    obtain ⟨_, _, _, _, rfl⟩ := settled ▸ same
    exact .inl ⟨err, rfl⟩
  | write turn _ widx v rest ops written =>
    cases written with
    | ignored eq => subst eq; exact .inl ⟨err, rfl⟩
    | rejected e eq => rw [eq, raise_of_err e (show (s.takeTurn.withOps rest).err = true from err)]; exact .inl ⟨err, rfl⟩
    | accepted i cmd valid idle legal eq => subst eq; exact .inl ⟨err, rfl⟩
    | cleared status bit eq => exact .inr (.inl ⟨v, rest, turn, status ▸ ops, bit⟩)
    | din first last idle eq => subst eq; exact .inl ⟨err, rfl⟩
  | complete turn eq => rw [eq, settled]; exact .inl (by simpa using err)
  | work turn eq => rw [eq, settled]; exact .inl ⟨err, rfl⟩
  | reset level turn edge eq =>
    obtain rfl : level = true := by simpa [low] using edge
    exact .inr (.inr turn)

/-! ### `DIN` -/

/-- Settles O51: of the kinds of step, only a write of a `DIN` word while idle and a reset reach `DIN`. -/
theorem onlyHostWritesDin : Obligations.OnlyHostWritesDin := by
  unfold Obligations.OnlyHostWritesDin
  intro s t step low notReset changed
  have settled := holdReset_of_low low
  cases stepped_of_step step with
  | quiet same =>
    obtain ⟨_, _, _, _, rfl⟩ := settled ▸ same
    exact absurd rfl changed
  | write turn _ widx v rest ops written =>
    cases written with
    | ignored eq => subst eq; exact absurd rfl changed
    | rejected e eq => subst eq; exact absurd (by simp) changed
    | accepted i cmd valid idle legal eq => subst eq; exact absurd rfl changed
    | cleared status bit eq => subst eq; exact absurd rfl changed
    | din first last idle eq => exact ⟨turn, idle, widx, v, rest, ops, first, last⟩
  | complete turn eq => exact absurd (by rw [eq, settled]; simp) changed
  | work turn eq => exact absurd (by rw [eq, settled]; simp) changed
  | reset level turn edge eq =>
    obtain rfl : level = true := by simpa [low] using edge
    exact absurd turn notReset

/-! ### `BUSY` -/

/-- A completion never sets `BUSY`. -/
theorem busy_of_complete_busy {tb : Tables} {s : State} (h : (s.complete tb).busy = true) : s.busy = true := by
  cases running : s.work with
  | none => rwa [complete_of_idle tb running] at h
  | some w => simp [complete_of_running tb running] at h

/-- A write keeps `BUSY`, or it is a valid command write that finds `BUSY` = 0 and sets it. -/
theorem WrittenAt.busy_cases {widx : WordIndex} {v : Word} {s t : State} (written : WrittenAt widx v s t) :
    t.busy = s.busy ∨ (t.busy = true ∧ widx = 0#7 ∧ firstError v s = none) := by
  cases written with
  | ignored eq => exact .inl (by rw [eq])
  | rejected e eq => exact .inl (by simp [eq])
  | accepted i cmd valid idle legal eq => exact .inr ⟨by rw [eq]; rfl, cmd, valid⟩
  | cleared status bit eq => exact .inl (by rw [eq]; rfl)
  | din first last idle eq => exact .inl (by rw [eq])

/-- Settles O52: of the kinds of step, only a write sets `BUSY`, and only a completion or a reset clears it. -/
theorem busyFollowsCommands : Obligations.BusyFollowsCommands := by
  unfold Obligations.BusyFollowsCommands
  intro s t step low
  have settled := holdReset_of_low low
  by_cases changed : t.busy = s.busy
  · exact ⟨fun idle busy => by simp [changed, idle] at busy, fun busy idle => by simp [changed, busy] at idle⟩
  cases stepped_of_step step with
  | quiet same =>
    obtain ⟨_, _, _, _, rfl⟩ := settled ▸ same
    exact absurd rfl changed
  | write turn _ widx v rest ops written =>
    obtain kept | ⟨set, rfl, valid⟩ := written.busy_cases
    · exact absurd kept changed
    · exact ⟨fun _ _ => ⟨turn, v, rest, ops, valid⟩, fun _ idle => by simp [set] at idle⟩
  | complete turn eq =>
    have running (busy : t.busy = true) : s.busy = true := busy_of_complete_busy (s := s.takeTurn) (settled ▸ eq ▸ busy)
    exact ⟨fun idle busy => by simp [running busy] at idle, fun _ _ => .inl turn⟩
  | work turn eq => exact absurd (by rw [eq, settled]; rfl) changed
  | reset level turn edge eq =>
    obtain rfl : level = true := by simpa [low] using edge
    exact ⟨fun _ busy => by simp [eq] at busy, fun _ _ => .inr turn⟩

/-! ### Reset -/

theorem atResetValues_of_resetRegisters (s : State) (level : Bool) :
    State.AtResetValues { s.resetRegisters with rst := level } :=
  ⟨rfl, rfl, rfl, rfl, rfl, byteAt_zero64, intTo_replicate_zero 8, intTo_replicate_zero 8, byteAt_zero64, byteAt_zero64, rfl⟩

theorem State.AtResetValues.sameEngine {s t : State} (reset : s.AtResetValues) (same : s.SameEngine t) :
    t.AtResetValues := by
  obtain ⟨_, _, _, _, rfl⟩ := same
  exact reset

/-- Held under reset, an engine stays there, whoever moves, until the reset input is released. -/
theorem Stepped.underReset {tb : Tables} {s t : State} (stepped : Stepped tb s t) (high : s.rst = true)
    (held : s.nextTurn ≠ .reset false) : t.AtResetValues ∧ t.rst = true := by
  have atReset := atResetValues_of_resetRegisters s s.rst
  have of_same : ∀ u, s.resetRegisters.SameEngine u → u.AtResetValues ∧ u.rst = true := fun u same =>
    ⟨atReset.sameEngine same, by obtain ⟨_, _, _, _, rfl⟩ := same; exact high⟩
  have settled := holdReset_of_high high
  have taken := takeTurn_sameEngine s.resetRegisters
  cases stepped with
  | quiet same => exact of_same t (settled ▸ same)
  | write turn low => simp [high] at low
  | complete turn eq => rw [eq, settled, complete_of_idle tb rfl]; exact of_same _ taken
  | work turn eq => rw [eq, settled, workOn_of_idle tb rfl]; exact of_same _ taken
  | reset level turn edge eq =>
    obtain rfl : level = true := by simpa using fun low : level = false => held (low ▸ turn)
    exact ⟨eq ▸ atResetValues_of_resetRegisters s.takeTurn true, eq ▸ rfl⟩

theorem stepWith_read_underReset (tb : Tables) {s : State} {widx : WordIndex} {rest : List HostOp} (high : s.rst = true)
    (turn : s.nextTurn = .host) (ops : s.ops = .read widx :: rest) :
    stepWith tb s = .next { s.resetRegisters.takeTurn.withOps rest with
      rdata := Config.any32 s.draws, draws := s.draws + 1 } := by
  have free : (s.resetRegisters.takeTurn.withOps rest).readIsFree widx = true := by simp [State.readIsFree, high]
  rw [stepWith_of_high tb high, turn, runTurn, hostTurn_of_ops (show s.resetRegisters.takeTurn.ops = _ from ops), runOp,
    read_of_free free]
  rfl

/-- Settles O54: driving `rst` puts the registers at their reset values, and no turn moves them while it is held. -/
theorem resetSetsEveryRegister : Obligations.ResetSetsEveryRegister := by
  unfold Obligations.ResetSetsEveryRegister
  refine ⟨fun s ts turns => ?_, fun s ts high turns => ?_, fun s high held => ?_, fun s widx rest high turn ops => ?_⟩
  · have turn : s.nextTurn = .reset true := by simp [State.nextTurn, turns]
    exact ⟨_, stepWith_reset standardTables turn (.inl rfl), atResetValues_of_resetRegisters _ _, rfl, by simp [turns], rfl⟩
  · have turn : s.nextTurn = .reset false := by simp [State.nextTurn, turns]
    exact ⟨_, stepWith_reset standardTables turn (.inr high), atResetValues_of_resetRegisters _ _, rfl, by simp [turns], rfl⟩
  · obtain ⟨t, ht, stepped⟩ := stepWith_stepped standardTables s
    exact ⟨t, ht, stepped.underReset high held⟩
  · exact ⟨_, stepWith_read_underReset standardTables high turn ops, rfl, rfl, rfl⟩

end Sys2Proof.Machine
end

section
/-! SUPPORT. What the host sees of a running command: nothing (spec/10_state.md R32, spec/20_memory.md R66, R67). -/

namespace Sys2Proof.Machine

/-- While a command runs, a write reports BUSY_VIOLATION, clears the error, or does nothing (spec/60_exceptions.md R254). -/
theorem portWrite_of_busy (widx : WordIndex) (v : Word) {s : State} (busy : s.busy = true) :
    portWrite widx v s = .next (
      if widx.toNat = 0 ∨ (16 ≤ widx.toNat ∧ widx.toNat < 32) then s.raise .busyViolation
      else if widx.toNat = 1 then s.writeStatus v
      else s) := by
  unfold portWrite
  by_cases cmd : widx.toNat = 0
  · simp [cmd, issueCommand_of_busy v busy]
  · by_cases status : widx.toNat = 1
    · simp [status]
    · by_cases window : 16 ≤ widx.toNat ∧ widx.toNat < 32 <;> simp [cmd, status, window, State.writeDin, busy]

/-! ### Each operation on two states that differ only in what the running command works on -/

theorem State.SameOutsideCommand.raise {s t : State} (same : s.SameOutsideCommand t) (e : Error) :
    (s.raise e).SameOutsideCommand (t.raise e) := by
  obtain ⟨h, n, sigma, dout, work, rfl⟩ := same
  refine ⟨h, n, sigma, dout, work, ?_⟩
  unfold State.raise
  split <;> rfl

theorem State.SameOutsideCommand.writeStatus {s t : State} (same : s.SameOutsideCommand t) (v : Word) :
    (s.writeStatus v).SameOutsideCommand (t.writeStatus v) := by
  obtain ⟨h, n, sigma, dout, work, rfl⟩ := same
  refine ⟨h, n, sigma, dout, work, ?_⟩
  unfold State.writeStatus
  split <;> rfl

theorem State.SameOutsideCommand.withOps {s t : State} (same : s.SameOutsideCommand t) (ops : List HostOp) :
    (s.withOps ops).SameOutsideCommand (t.withOps ops) := by
  obtain ⟨h, n, sigma, dout, work, rfl⟩ := same
  exact ⟨h, n, sigma, dout, work, rfl⟩

theorem State.SameOutsideCommand.takeTurn {s t : State} (same : s.SameOutsideCommand t) :
    s.takeTurn.SameOutsideCommand t.takeTurn := by
  obtain ⟨h, n, sigma, dout, work, rfl⟩ := same
  exact ⟨h, n, sigma, dout, work, rfl⟩

/-- A read that is not free while a command runs is of a word outside the windows the command works on. -/
theorem windowWord_of_outside {s t : State} {widx : WordIndex} (same : s.SameOutsideCommand t)
    (outside : ¬ (32 ≤ widx.toNat ∧ widx.toNat < 96)) : t.windowWord widx = s.windowWord widx := by
  obtain ⟨h, n, sigma, dout, work, rfl⟩ := same
  have status : statusWord { s with h := h, n := n, sigma := sigma, dout := dout, work := work } = statusWord s := by
    unfold statusWord; rfl
  have notDout : ¬ (32 ≤ widx.toNat ∧ widx.toNat < 48) := by omega
  have notH : ¬ (48 ≤ widx.toNat ∧ widx.toNat < 64) := by omega
  have notN : ¬ (64 ≤ widx.toNat ∧ widx.toNat < 80) := by omega
  have notSigma : ¬ (80 ≤ widx.toNat ∧ widx.toNat < 96) := by omega
  simp only [State.windowWord, status, if_neg notDout, if_neg notH, if_neg notN, if_neg notSigma]

theorem State.SameOutsideCommand.read {s t : State} (same : s.SameOutsideCommand t) (busy : s.busy = true)
    (widx : WordIndex) : (s.read widx).SameOutsideCommand (t.read widx) := by
  have free_eq : t.readIsFree widx = s.readIsFree widx := by
    obtain ⟨h, n, sigma, dout, work, rfl⟩ := same; rfl
  cases free : s.readIsFree widx with
  | true =>
    rw [read_of_free free, read_of_free (free_eq.trans free)]
    obtain ⟨h, n, sigma, dout, work, rfl⟩ := same
    exact ⟨h, n, sigma, dout, work, rfl⟩
  | false =>
    have outside : ¬ (32 ≤ widx.toNat ∧ widx.toNat < 96) := by
      simpa [State.readIsFree, busy] using (Bool.or_eq_false_iff.1 free).2
    rw [read_of_defined free, read_of_defined (free_eq.trans free), windowWord_of_outside same outside]
    obtain ⟨h, n, sigma, dout, work, rfl⟩ := same
    exact ⟨h, n, sigma, dout, work, rfl⟩

theorem State.SameOutsideCommand.rdata_eq {s t : State} (same : s.SameOutsideCommand t) : s.rdata = t.rdata := by
  obtain ⟨h, n, sigma, dout, work, rfl⟩ := same; rfl

theorem State.SameOutsideCommand.waitPoll {s t : State} (same : s.SameOutsideCommand t) (busy : s.busy = true) :
    s.waitPoll.SameOutsideCommand t.waitPoll := by
  have polled := same.read busy 1#7
  simp only [State.waitPoll]
  generalize s.read 1#7 = u, t.read 1#7 = u' at polled ⊢
  obtain ⟨h, n, sigma, dout, work, rfl⟩ := polled
  refine ⟨h, n, sigma, dout, work, ?_⟩
  dsimp only
  split <;> rfl

theorem runOp_sameOutsideCommand (op : HostOp) {s t : State} (same : s.SameOutsideCommand t) (busy : s.busy = true) :
    ∃ s' t', runOp op s = .next s' ∧ runOp op t = .next t' ∧ s'.SameOutsideCommand t' := by
  obtain ⟨busy', rst⟩ : t.busy = true ∧ t.rst = s.rst := by
    obtain ⟨h, n, sigma, dout, work, rfl⟩ := same; exact ⟨busy, rfl⟩
  cases op with
  | read widx => exact ⟨_, _, rfl, rfl, same.read busy widx⟩
  | wait => exact ⟨_, _, rfl, rfl, same.waitPoll busy⟩
  | write widx v =>
    simp only [runOp, rst, portWrite_of_busy widx v busy, portWrite_of_busy widx v busy']
    split_ifs
    · exact ⟨s, t, rfl, rfl, same⟩
    · exact ⟨_, _, rfl, rfl, same.raise _⟩
    · exact ⟨_, _, rfl, rfl, same.writeStatus v⟩
    · exact ⟨s, t, rfl, rfl, same⟩

theorem hostTurn_sameOutsideCommand {s t : State} (same : s.SameOutsideCommand t) (busy : s.busy = true) :
    ∃ s' t', s.hostTurn = .next s' ∧ t.hostTurn = .next t' ∧ s'.SameOutsideCommand t' := by
  have ops_eq : t.ops = s.ops := by obtain ⟨h, n, sigma, dout, work, rfl⟩ := same; rfl
  cases ops : s.ops with
  | nil => exact ⟨s, t, by simp [State.hostTurn, ops], by simp [State.hostTurn, ops_eq, ops], same⟩
  | cons op rest =>
    rw [hostTurn_of_ops ops, hostTurn_of_ops (ops_eq.trans ops)]
    exact runOp_sameOutsideCommand op (same.withOps rest) busy

/-- Settles O53: each host operation keeps two such states alike, since the windows the command works on read as free values. -/
theorem busyHidesRunningCommand : Obligations.BusyHidesRunningCommand := by
  unfold Obligations.BusyHidesRunningCommand
  intro s t busy same turn low
  obtain ⟨turn', low'⟩ : t.nextTurn = .host ∧ t.rst = false := by
    obtain ⟨h, n, sigma, dout, work, rfl⟩ := same; exact ⟨turn, low⟩
  obtain ⟨s', t', hs, ht, same'⟩ := hostTurn_sameOutsideCommand same.takeTurn busy
  refine ⟨s', t', ?_, ?_, same', same'.rdata_eq⟩
  · rw [step_eq_stepWith, stepWith_of_low _ low, turn]; exact hs
  · rw [step_eq_stepWith, stepWith_of_low _ low', turn']; exact ht

end Sys2Proof.Machine
end

section
/-! SUPPORT. A command given and completed with nothing between (spec/30_encoding.md R97): the lifecycle table (spec/10_state.md
R37) and the counters (R39). -/

namespace Sys2Proof.Machine

/-- An acceptable command given while none runs is accepted. -/
theorem exec_of_acceptable {i : Instr} {s : State} (idle : s.busy = false) (legal : acceptable i s) :
    exec i s = .next (s.accept i) := by
  cases i with
  | init size => simp [exec, execInit, State.issue, sizeObjection, idle, show size = 32 ∨ size = 64 from legal]
  | update => simp [exec, execUpdate, State.issue, stateObjection, idle, show s.life = .streaming from legal]
  | finalize pos => simp [exec, execFinalize, State.issue, stateObjection, idle, legal.2]

/-- What a command leaves when it is given while none runs and then completed. -/
theorem commandThenWait_of_acceptable (tb : Tables) {i : Instr} {s : State} (idle : s.busy = false) (legal : acceptable i s) :
    commandThenWait tb i s = { (s.accept i).commit tb i with busy := false, work := none } := by
  have completed := complete_of_running tb (accept_work i s)
  rw [start_cmd] at completed
  rw [commandThenWait, exec_of_acceptable idle legal]
  exact completed

/-- Settles O13: each cell is an accepted command's commit or a rejected one's error. -/
theorem lifecycleTable : Obligations.LifecycleTable := by
  unfold Obligations.LifecycleTable
  intro tables s idle clear
  refine ⟨fun size valid => ?_, fun size other => ?_, fun streaming => ⟨?_, fun p hp => ?_⟩,
    fun outside => ⟨?_, fun p _ => ?_⟩, fun v why illegal => ?_⟩
  · rw [commandThenWait_of_acceptable tables idle (show acceptable (.init size) s from valid)]; rfl
  · rw [exec_init_rejected idle other, raise_of_clear _ clear]
  · rw [commandThenWait_of_acceptable tables idle (show acceptable .update s from streaming)]; exact streaming
  · rw [commandThenWait_of_acceptable tables idle (show acceptable (.finalize p) s from ⟨hp, streaming⟩)]; rfl
  · rw [exec_update_rejected idle outside, raise_of_clear _ clear]
  · rw [exec_finalize_rejected p idle outside, raise_of_clear _ clear]
  · rw [issueCommand_illegal idle illegal, raise_of_clear _ clear]

/-- What INIT leaves for the commands after it. -/
theorem commandThenWait_init (tb : Tables) {size : Nat} {s : State} (idle : s.busy = false) (valid : size = 32 ∨ size = 64) :
    (commandThenWait tb (.init size) s).busy = false ∧ (commandThenWait tb (.init size) s).life = .streaming ∧
    (commandThenWait tb (.init size) s).n = Vector.replicate 8 0#64 ∧
    (commandThenWait tb (.init size) s).sigma = Vector.replicate 8 0#64 := by
  rw [commandThenWait_of_acceptable tb idle (show acceptable (.init size) s from valid)]
  exact ⟨rfl, rfl, rfl, rfl⟩

/-- What UPDATE leaves for the commands after it. -/
theorem commandThenWait_update (tb : Tables) {s : State} (idle : s.busy = false) (streaming : s.life = .streaming) :
    (commandThenWait tb .update s).busy = false ∧ (commandThenWait tb .update s).life = .streaming ∧
    (commandThenWait tb .update s).n = updateN s.n 64 ∧ (commandThenWait tb .update s).sigma = updateSigma s.sigma s.din := by
  rw [commandThenWait_of_acceptable tb idle (show acceptable .update s from streaming)]
  exact ⟨rfl, streaming, rfl, rfl⟩

/-- UPDATEs while streaming add 512 bits each to `n` and their blocks to `sigma`. -/
theorem updateBlocks_counters (tb : Tables) (blocks : List Block) {s : State} (idle : s.busy = false)
    (streaming : s.life = .streaming) :
    intOf (updateBlocks tb blocks s).n = (intOf s.n + 512 * blocks.length) % 2 ^ 512 ∧
    intOf (updateBlocks tb blocks s).sigma = (intOf s.sigma + (blocks.map fun b => intOf (words b)).sum) % 2 ^ 512 := by
  induction blocks generalizing s with
  | nil =>
    constructor
    · rw [updateBlocks, List.length_nil, Nat.mul_zero, Nat.add_zero, Nat.mod_eq_of_lt (intOf_lt _)]
    · rw [updateBlocks, List.map_nil, List.sum_nil, Nat.add_zero, Nat.mod_eq_of_lt (intOf_lt _)]
  | cons b rest ih =>
    obtain ⟨idle', streaming', n_eq, sigma_eq⟩ := commandThenWait_update tb (s := { s with din := b }) idle streaming
    obtain ⟨n, sigma⟩ := ih idle' streaming'
    rw [n_eq, intOf_updateN s.n le_rfl, Nat.mod_add_mod] at n
    rw [sigma_eq, intOf_updateSigma, Nat.mod_add_mod] at sigma
    constructor
    · rw [updateBlocks, n, List.length_cons]
      congr 1
      ring
    · rw [updateBlocks, sigma, List.map_cons, List.sum_cons, Nat.add_assoc]

/-- Settles O17: INIT opens a session with both counters zero. -/
theorem countersAfterUpdates : Obligations.CountersAfterUpdates := by
  unfold Obligations.CountersAfterUpdates
  intro tables size s blocks valid idle
  obtain ⟨idle', streaming, n_eq, sigma_eq⟩ := commandThenWait_init tables idle valid
  obtain ⟨n, sigma⟩ := updateBlocks_counters tables blocks idle' streaming
  have zero : intOf (Vector.replicate 8 0#64) = 0 := intTo_replicate_zero 8
  rw [n_eq, zero, Nat.zero_add] at n
  rw [sigma_eq, zero, Nat.zero_add] at sigma
  exact ⟨n, sigma⟩

end Sys2Proof.Machine
end

section
/-! SUPPORT. The sequencer's moves on a whole command (spec/43_controller.md R200, R204, R205, spec/70_reset_and_hazards.md R286). -/

namespace Sys2Proof.Machine

variable (tb : Tables)

/-- The two moves after the block's `g` call: both accumulators, then what follows for the command. -/
theorem advanceBy_add_two {w : Work} (h : w.stage = .addN) :
    w.advanceBy tb 2 =
      { w with
        stage := afterAdd w.cmd
        n := updateN w.n (lengthOperand w.cmd)
        sigma := updateSigma w.sigma w.pb } := by
  simp [Work.advanceBy, Work.advance, h]

/-- The sixteen moves that compress a command's block: one `g` call and the two accumulators, as `State.compress`. -/
theorem advanceBy_compress {w : Work} (h : w.stage = .seed .block) :
    (w.advanceBy tb 16).stage = afterAdd w.cmd ∧
    (w.advanceBy tb 16).h = g tb w.h (bytes w.n) w.pb ∧
    (w.advanceBy tb 16).n = updateN w.n (lengthOperand w.cmd) ∧
    (w.advanceBy tb 16).sigma = updateSigma w.sigma w.pb := by
  rw [advanceBy_add tb w 14 2, advanceBy_gCall tb h, advanceBy_add_two tb rfl]
  exact ⟨rfl, rfl, rfl, rfl⟩

/-- The 28 moves of FINALIZE's two folds, `n` first. -/
theorem advanceBy_folds {w : Work} (h : w.stage = .seed .foldN) :
    (w.advanceBy tb 28).stage = .done ∧
    (w.advanceBy tb 28).h = g tb (g tb w.h zero64 (bytes w.n)) zero64 (bytes w.sigma) ∧
    (w.advanceBy tb 28).n = w.n ∧ (w.advanceBy tb 28).sigma = w.sigma := by
  rw [advanceBy_add tb w 14 14, advanceBy_gCall tb h, advanceBy_gCall tb rfl]
  exact ⟨rfl, rfl, rfl, rfl⟩

/-- Once done, a working state stays as it is, so any later count of moves ends the same. -/
theorem advanceBy_of_done_le {w : Work} {a k : Nat} (done : (w.advanceBy tb a).stage = .done) (le : a ≤ k) :
    w.advanceBy tb k = w.advanceBy tb a := by
  obtain ⟨b, rfl⟩ := Nat.exists_eq_add_of_le le
  rw [advanceBy_add, advanceBy_of_done tb done]

/-- The working state holds the values of `h`, `n` and `sigma` that `t` holds, with nothing left to work out. -/
def Work.Reaches (w : Work) (t : State) : Prop := w.stage = .done ∧ w.h = t.h ∧ w.n = t.n ∧ w.sigma = t.sigma

/-- INIT needs no move, UPDATE sixteen, FINALIZE 44. -/
theorem start_reaches_commit (i : Instr) (s : State) :
    ∃ a, a ≤ 44 ∧ ((Work.start i s).advanceBy tb a).Reaches (s.commit tb i) := by
  cases i with
  | init size => exact ⟨0, by decide, rfl, rfl, rfl, rfl⟩
  | update =>
    obtain ⟨stage, h, n, sigma⟩ := advanceBy_compress tb (w := Work.start .update s) rfl
    exact ⟨16, by decide, stage, h, n, sigma⟩
  | finalize pos =>
    obtain ⟨stage, h, n, sigma⟩ := advanceBy_compress tb (w := Work.start (.finalize pos) s) rfl
    obtain ⟨stage', h', n', sigma'⟩ := advanceBy_folds tb stage
    rw [h, n, sigma] at h'
    refine ⟨16 + 28, le_rfl, ?_⟩
    rw [advanceBy_add]
    exact ⟨stage', h', n'.trans n, sigma'.trans sigma⟩

/-- Settles O43: the moves after the command's own change nothing more. -/
theorem sequencerReachesCommittedEffect : Obligations.SequencerReachesCommittedEffect := by
  unfold Obligations.SequencerReachesCommittedEffect
  intro tables i s k enough
  obtain ⟨a, le, reached⟩ := start_reaches_commit tables i s
  exact ⟨_, rfl, advanceBy_of_done_le tables reached.1 (le.trans enough) ▸ reached⟩

end Sys2Proof.Machine
end

section
/-! SUPPORT. The fields of `STATUS` (spec/10_state.md R35, spec/20_memory.md R66) and the words of the window (R62, R63, R65). -/

namespace Sys2Proof.Machine

/-! ### `STATUS` -/

/-- The low byte of `STATUS`: `STATE`, `BUSY`, `ERR` and `ERRCODE`. -/
def statusLow (s : State) : Word :=
  lifeCode s.life ||| (bitCode s.busy <<< 2) ||| (bitCode s.err <<< 3) ||| (errorCode s.errcode <<< 4)

theorem statusWord_eq (s : State) : statusWord s = statusLow s ||| (s.outsize.setWidth 32 <<< 8) := by
  unfold statusWord statusLow; rfl

/-- The four fields of the low byte do not overlap. -/
theorem statusLow_toNat (s : State) :
    (statusLow s).toNat =
      (lifeCode s.life).toNat + 4 * s.busy.toNat + 8 * s.err.toNat + 16 * (errorCode s.errcode).toNat := by
  unfold statusLow
  cases s.life <;> cases s.busy <;> cases s.err <;> rcases s.errcode with _ | ⟨_ | _ | _ | _⟩ <;> rfl

theorem statusLow_lt (s : State) : (statusLow s).toNat < 2 ^ 8 := by
  unfold statusLow
  cases s.life <;> cases s.busy <;> cases s.err <;> rcases s.errcode with _ | ⟨_ | _ | _ | _⟩ <;> decide

theorem statusWord_toNat (s : State) : (statusWord s).toNat = (statusLow s).toNat + 256 * s.outsize.toNat := by
  have small := s.outsize.isLt
  have high : (s.outsize.setWidth 32 <<< 8).toNat = s.outsize.toNat <<< 8 := by
    rw [BitVec.toNat_shiftLeft, BitVec.toNat_setWidth_of_le (by decide), Nat.shiftLeft_eq]
    omega
  rw [statusWord_eq, BitVec.toNat_or, high, Nat.or_comm, ← Nat.shiftLeft_add_eq_or_of_lt (statusLow_lt s), Nat.shiftLeft_eq]
  omega

/-- A field of a word, as an integer. -/
theorem toNat_field (w : Word) (start len : Nat) : (w.extractLsb' start len).toNat = w.toNat / 2 ^ start % 2 ^ len := by
  rw [BitVec.extractLsb'_toNat, Nat.shiftRight_eq_div_pow]

/-- A one-bit field of a word. -/
theorem getLsbD_of_field {w : Word} {start : Nat} {b : Bool} (field : w.toNat / 2 ^ start % 2 = b.toNat) :
    w.getLsbD start = b := by
  rw [BitVec.getLsbD, Nat.testBit_eq_decide_div_mod_eq, field]
  cases b <;> rfl

/-- Settles O26: `STATUS` is the sum of its fields at their places, and each fits its place. -/
theorem statusFields : Obligations.StatusFields := by
  unfold Obligations.StatusFields
  intro s
  have word := statusWord_toNat s
  have low := statusLow_toNat s
  have size := s.outsize.isLt
  have life : (lifeCode s.life).toNat < 4 := by cases s.life <;> decide
  have busy := s.busy.toNat_lt
  have err := s.err.toNat_lt
  have code : (errorCode s.errcode).toNat < 16 := by rcases s.errcode with _ | ⟨_ | _ | _ | _⟩ <;> decide
  refine ⟨BitVec.eq_of_toNat_eq ?_, ?_, ?_, BitVec.eq_of_toNat_eq ?_, BitVec.eq_of_toNat_eq ?_, BitVec.eq_of_toNat_eq ?_⟩
  · have field : ((statusWord s).extractLsb' 0 2).toNat = (lifeCode s.life).toNat := by rw [toNat_field]; omega
    rw [field]
    cases s.life <;> rfl
  · exact getLsbD_of_field (by omega)
  · exact getLsbD_of_field (by omega)
  · have field : ((statusWord s).extractLsb' 4 4).toNat = (errorCode s.errcode).toNat := by rw [toNat_field]; omega
    rw [field]
    rcases s.errcode with _ | ⟨_ | _ | _ | _⟩ <;> rfl
  · rw [toNat_field]; omega
  · rw [toNat_field, BitVec.toNat_ofNat]; omega

/-! ### The `DIN` window -/

/-- Bit `i` of a window word is bit `i mod 8` of byte `i / 8` of the word's four (R63). -/
theorem getLsbD_wordOf (x : Block) (j : Nat) {i : Nat} (h : i < 32) :
    (wordOf x j).getLsbD i = (byteAt x (4 * j + i / 8)).getLsbD (i % 8) := by
  unfold wordOf
  interval_cases i <;> simp

theorem wordOf_putWord_self (x : Block) {j : Nat} (v : Word) (h : j < 16) : wordOf (putWord x j v) j = v := by
  refine BitVec.eq_of_getLsbD_eq fun i hi => ?_
  have place : (4 * j + i / 8) / 4 = j := by omega
  have byte : 8 * ((4 * j + i / 8) % 4) + i % 8 = i := by omega
  rw [getLsbD_wordOf _ _ hi, byteAt_putWord x j v (by omega), if_pos place, BitVec.getLsbD_extractLsb', byte]
  simp [show i % 8 < 8 by omega]

theorem wordOf_putWord_other (x : Block) {j k : Nat} (v : Word) (h : k < 16) (other : k ≠ j) :
    wordOf (putWord x j v) k = wordOf x k := by
  refine BitVec.eq_of_getLsbD_eq fun i hi => ?_
  rw [getLsbD_wordOf _ _ hi, getLsbD_wordOf _ _ hi, byteAt_putWord x j v (by omega),
    if_neg (show ¬ (4 * k + i / 8) / 4 = j by omega)]

/-- The words of the `DIN` window are those of `DIN`. -/
theorem windowWord_din {s : State} {widx : WordIndex} (first : 16 ≤ widx.toNat) (last : widx.toNat < 32) :
    s.windowWord widx = wordOf s.din (widx.toNat - 16) := by
  simp [State.windowWord, first, last, show widx.toNat ≠ 1 by omega]

/-- The other words of the window do not depend on `DIN`. -/
theorem windowWord_of_not_din (s : State) (din : Block) {widx : WordIndex} (outside : ¬ (16 ≤ widx.toNat ∧ widx.toNat < 32)) :
    ({ s with din := din } : State).windowWord widx = s.windowWord widx := by
  have status : statusWord { s with din := din } = statusWord s := by unfold statusWord; rfl
  simp only [State.windowWord, status, if_neg outside]

/-- A write of a `DIN` word that finds no command running takes its word and nothing else. -/
theorem portWrite_din {widx : WordIndex} (v : Word) {s : State} (first : 16 ≤ widx.toNat) (last : widx.toNat < 32)
    (idle : s.busy = false) : portWrite widx v s = .next { s with din := putWord s.din (widx.toNat - 16) v } := by
  simp [portWrite, State.writeDin, first, last, idle, show widx.toNat ≠ 0 by omega, show widx.toNat ≠ 1 by omega]

/-- Settles O30: the word written is read back, and each other word is another word of `DIN` or does not depend on it. -/
theorem dinReadsBackAsWritten : Obligations.DinReadsBackAsWritten := by
  unfold Obligations.DinReadsBackAsWritten
  intro s t widx other v first last idle written
  obtain rfl : t = { s with din := putWord s.din (widx.toNat - 16) v } := by
    simpa [portWrite_din v first last idle, eq_comm] using written
  refine ⟨?_, fun distinct => ?_⟩
  · rw [windowWord_din first last]
    exact wordOf_putWord_self s.din v (by omega)
  · by_cases inside : 16 ≤ other.toNat ∧ other.toNat < 32
    · obtain ⟨first', last'⟩ := inside
      have distinct' : other.toNat ≠ widx.toNat := fun eq => distinct (BitVec.eq_of_toNat_eq eq)
      rw [windowWord_din first' last', windowWord_din first' last']
      exact wordOf_putWord_other s.din v (by omega) (by omega)
    · exact windowWord_of_not_din s _ inside

end Sys2Proof.Machine
end

section
/-! SUPPORT. A command that completes after any turns of the host and the hidden work (spec/20_memory.md R67, R72,
spec/43_controller.md R208). -/

namespace Sys2Proof.Machine

/-! ### Turns and runs -/

theorem WrittenAt.turns_eq {widx : WordIndex} {v : Word} {s t : State} (written : WrittenAt widx v s t) :
    t.turns = s.turns := by
  cases written with
  | ignored eq => rw [eq]
  | rejected e eq => simp [eq]
  | accepted i cmd valid idle legal eq => simp [eq]
  | cleared status bit eq => simp [eq]
  | din first last idle eq => rw [eq]

/-- Every host operation answers a next state, and takes no turn of its own. -/
theorem runOp_turns (op : HostOp) (s : State) : ∃ t, runOp op s = .next t ∧ t.turns = s.turns := by
  cases op with
  | read widx => exact ⟨_, rfl, read_turns widx s⟩
  | wait => exact ⟨_, rfl, waitPoll_turns s⟩
  | write widx v =>
    obtain ⟨t, ht, written⟩ := portWrite_writtenAt widx v s
    cases rst : s.rst with
    | true => exact ⟨s, by simp [runOp, rst], rfl⟩
    | false => exact ⟨t, by simpa [runOp, rst] using ht, written.turns_eq⟩

theorem hostTurn_turns (s : State) : ∃ t, s.hostTurn = .next t ∧ t.turns = s.turns := by
  cases ops : s.ops with
  | nil => exact ⟨s, by simp [State.hostTurn, ops], rfl⟩
  | cons op rest => rw [hostTurn_of_ops ops]; exact runOp_turns op (s.withOps rest)

theorem runTurn_turns (tb : Tables) (turn : Turn) (s : State) : ∃ t, runTurn tb turn s = .next t ∧ t.turns = s.turns := by
  cases turn with
  | host => exact hostTurn_turns s
  | complete => exact ⟨_, rfl, complete_turns tb s⟩
  | work => exact ⟨_, rfl, workOn_turns tb s⟩
  | reset level => exact ⟨_, rfl, by unfold State.driveReset; split <;> rfl⟩

/-- A step takes its own turn off the list and no other. -/
theorem stepWith_turns {tb : Tables} {s t : State} (step : stepWith tb s = .next t) : t.turns = s.turns.tail := by
  obtain ⟨u, hu, turns⟩ := runTurn_turns tb s.nextTurn s.holdReset.takeTurn
  cases step.symm.trans hu
  simpa using turns

theorem nextTurn_of_turns {s : State} {turn : Turn} {rest : List Turn} (h : s.turns = turn :: rest) : s.nextTurn = turn := by
  simp [State.nextTurn, h]

theorem run_succ_of_next {tb : Tables} {s t : State} (k : Nat) (step : stepWith tb s = .next t) :
    run tb (k + 1) s = run tb k t := by
  simp [run, step]

/-! ### The running command -/

/-- A command write that finds no command running and leaves one running has accepted its command. -/
theorem issue_accepted {i : Instr} {o : Option Error} {s : State} (idle : s.busy = false)
    (running : (s.issue i o).busy = true) : s.issue i o = s.accept i := by
  cases o with
  | none => simp [State.issue, idle]
  | some e => simp [State.issue, idle] at running

theorem exec_accepted {i : Instr} {s t : State} (answer : exec i s = .next t) (idle : s.busy = false)
    (running : t.busy = true) : t = s.accept i := by
  cases i with
  | init size => cases answer; exact issue_accepted idle running
  | update => cases answer; exact issue_accepted idle running
  | finalize pos => cases answer; exact issue_accepted idle running

/-- Command `i`, accepted on the registers and `DIN` of `s`, is running in `t`, and they are as they were. -/
structure State.RunningFrom (i : Instr) (s t : State) : Prop where
  busy    : t.busy = true
  low     : t.rst = false
  command : ∃ w, t.work = some w ∧ w.cmd = i
  din     : t.din = s.din
  results : State.sameResults s t

theorem State.RunningFrom.accept (i : Instr) {s : State} (low : s.rst = false) : State.RunningFrom i s (s.accept i) where
  busy := rfl
  low := low
  command := ⟨_, rfl, start_cmd i s⟩
  din := rfl
  results := ⟨rfl, rfl, rfl, rfl, rfl, rfl⟩

theorem State.RunningFrom.sameEngine {i : Instr} {s t u : State} (running : State.RunningFrom i s t) (same : t.SameEngine u) :
    State.RunningFrom i s u where
  results := sameResults_trans running.results same.sameResults
  busy := by obtain ⟨_, _, _, _, rfl⟩ := same; exact running.busy
  low := by obtain ⟨_, _, _, _, rfl⟩ := same; exact running.low
  command := by obtain ⟨_, _, _, _, rfl⟩ := same; exact running.command
  din := by obtain ⟨_, _, _, _, rfl⟩ := same; exact running.din

/-- No write of the port reaches a running command (spec/20_memory.md R67). -/
theorem State.RunningFrom.writtenAt {i : Instr} {widx : WordIndex} {v : Word} {s t u : State}
    (running : State.RunningFrom i s t) (written : WrittenAt widx v t u) : State.RunningFrom i s u := by
  obtain ⟨busy, low, command, din, results⟩ := running
  have results := sameResults_trans results written.sameResults
  cases written with
  | ignored eq => exact eq ▸ ⟨busy, low, command, din, eq ▸ results⟩
  | rejected e eq => subst eq; exact ⟨by simpa, by simpa, by simpa, by simpa, results⟩
  | accepted j cmd valid idle legal eq => simp [busy] at idle
  | cleared status bit eq => subst eq; exact ⟨busy, low, command, din, results⟩
  | din first last idle eq => simp [busy] at idle

theorem State.RunningFrom.workOn {tb : Tables} {i : Instr} {s t : State} (running : State.RunningFrom i s t) :
    State.RunningFrom i s (t.workOn tb) := by
  obtain ⟨busy, low, ⟨w, work, cmd⟩, din, results⟩ := running
  exact ⟨busy, low, ⟨w.advance tb, by simp [work], by simp [cmd]⟩, din, results⟩

/-- Neither the host nor the hidden work ends a running command or reaches what it was accepted on. -/
theorem State.RunningFrom.step {tb : Tables} {i : Instr} {s t u : State} (running : State.RunningFrom i s t)
    (step : stepWith tb t = .next u) (turn : t.nextTurn = .host ∨ t.nextTurn = .work) : State.RunningFrom i s u := by
  have settled := holdReset_of_low running.low
  cases stepped_of_stepWith step with
  | quiet same => exact running.sameEngine (settled ▸ same)
  | write _ _ widx v rest ops written => exact (running.sameEngine (takeTurn_withOps_sameEngine rest t)).writtenAt written
  | complete other eq => simp [other] at turn
  | work _ eq => rw [eq, settled]; exact (running.sameEngine (takeTurn_sameEngine t)).workOn
  | reset level other edge eq => simp [other] at turn

/-! ### Its completion -/

/-- What a command commits to the result registers depends on them and on `DIN` only. -/
theorem commit_sameResults (tb : Tables) (i : Instr) {s t : State} (results : State.sameResults s t) (din : t.din = s.din) :
    State.sameResults (s.commit tb i) (t.commit tb i) := by
  obtain ⟨h, n, sigma, outsize, life, dout⟩ := results
  cases i with
  | init size => exact ⟨rfl, rfl, rfl, rfl, rfl, rfl⟩
  | update => simp [State.sameResults, State.commit, h, n, sigma, outsize, life, dout, din]
  | finalize pos =>
    simp [State.sameResults, State.commit, commitFinalize_h, commitFinalize_dout, h, n, sigma, outsize, din]

/-- The state a completion of command `i`, accepted on the registers and `DIN` of `s`, leaves. -/
structure State.CompletedFrom (tb : Tables) (i : Instr) (s u : State) : Prop where
  idle    : u.busy = false
  stopped : u.work = none
  din     : u.din = s.din
  results : State.sameResults (s.commit tb i) u

theorem State.RunningFrom.complete {tb : Tables} {i : Instr} {s t : State} (running : State.RunningFrom i s t) :
    State.CompletedFrom tb i s (t.complete tb) := by
  obtain ⟨busy, low, ⟨w, work, rfl⟩, din, results⟩ := running
  rw [complete_of_running tb work]
  exact ⟨rfl, rfl, by simpa using din, commit_sameResults tb w.cmd results din⟩

/-- However the host and the hidden work interleave, the completion turn then finds the command as it was accepted. -/
theorem State.RunningFrom.run_to_completion {tb : Tables} {i : Instr} {s t : State} {ts rest : List Turn}
    (running : State.RunningFrom i s t) (turns : t.turns = ts ++ .complete :: rest) (others : ∀ x ∈ ts, x = .host ∨ x = .work) :
    ∃ u, run tb (ts.length + 1) t = .next u ∧ u.turns = rest ∧ State.CompletedFrom tb i s u := by
  induction ts generalizing t with
  | nil =>
    have completes : stepWith tb t = .next (t.takeTurn.complete tb) := by
      rw [stepWith_of_low tb running.low, nextTurn_of_turns turns]; rfl
    exact ⟨_, run_succ_of_next 0 completes, by simp [turns], (running.sameEngine (takeTurn_sameEngine t)).complete⟩
  | cons turn ts ih =>
    obtain ⟨u, step, -⟩ := stepWith_stepped tb t
    have chosen : t.nextTurn = turn := nextTurn_of_turns turns
    have running' := running.step step (chosen ▸ others turn List.mem_cons_self)
    have turns' : u.turns = ts ++ .complete :: rest := by rw [stepWith_turns step, turns]; rfl
    rw [List.length_cons, run_succ_of_next _ step]
    exact ih running' turns' fun x hx => others x (List.mem_cons_of_mem _ hx)

/-- Settles O12: acceptance starts the command on the snapshot, no turn before the completion reaches it, and the completion
commits the command's effect on it. -/
theorem completionCommitsAcceptedSnapshot : Obligations.CompletionCommitsAcceptedSnapshot := by
  unfold Obligations.CompletionCommitsAcceptedSnapshot
  intro tables i s t ts rest answer idle busy low turns others
  obtain rfl := exec_accepted answer idle busy
  obtain ⟨u, ran, turns, completed⟩ := (State.RunningFrom.accept i low).run_to_completion (tb := tables) turns others
  exact ⟨u, ran, completed.idle, completed.stopped, turns, completed.din, completed.results⟩

end Sys2Proof.Machine
end

section
/-! SUPPORT. The host's reads and writes at every word index (spec/20_memory.md R62, R63, R65, R66). -/

namespace Sys2Proof.Machine

/-! ### The words of the window -/

/-- Byte `m` of word `j` of an array is byte `4j + m` of the array (R63). -/
theorem extractLsb'_wordOf (x : Block) (j : Nat) {m : Nat} (h : m < 4) :
    (wordOf x j).extractLsb' (8 * m) 8 = byteAt x (4 * j + m) := by
  refine BitVec.eq_of_getLsbD_eq fun i hi => ?_
  have byte : (8 * m + i) / 8 = m := by omega
  have bit : (8 * m + i) % 8 = i := by omega
  rw [BitVec.getLsbD_extractLsb', getLsbD_wordOf x j (by omega), byte, bit]
  simp [hi]

/-- The array the window shows under a name (R62). -/
def State.array (s : State) (x : ArrayName) : Block :=
  match x with
  | .din => s.din
  | .dout => s.dout
  | .h => s.h
  | .n => bytes s.n
  | .sigma => bytes s.sigma

/-- The sixteen words from `W_X` on are those of the array. -/
theorem windowWord_array (s : State) (x : ArrayName) {widx : WordIndex} (first : x.firstWord ≤ widx.toNat)
    (last : widx.toNat < x.firstWord + 16) : s.windowWord widx = wordOf (s.array x) (widx.toNat - x.firstWord) := by
  cases x with
  | din => exact windowWord_din first last
  | dout | h | n | sigma =>
    simp only [ArrayName.firstWord] at first last
    simp (disch := omega) only [State.windowWord, State.array, ArrayName.firstWord, if_pos, if_neg]

theorem windowWord_status (s : State) {widx : WordIndex} (status : widx.toNat = 1) : s.windowWord widx = statusWord s := by
  simp [State.windowWord, status]

/-- `CMD` and the reserved words hold zero. -/
theorem windowWord_reserved (s : State) {widx : WordIndex} (notStatus : widx.toNat ≠ 1)
    (outside : widx.toNat < 16 ∨ 96 ≤ widx.toNat) : s.windowWord widx = 0#32 := by
  simp (disch := omega) only [State.windowWord, if_neg]

theorem toNat_widx (x : ArrayName) {j : Nat} (h : j < 16) : (x.widx j).toNat = x.firstWord + j := by
  have last : x.firstWord ≤ 80 := by cases x <;> decide
  rw [ArrayName.widx, BitVec.toNat_ofNat]
  omega

/-- Settles O27: word `W_X + j` of the window is word `j` of the array, whose bytes are in order. -/
theorem windowIsLittleEndian : Obligations.WindowIsLittleEndian := by
  unfold Obligations.WindowIsLittleEndian
  intro s x j m hj hm
  have index := toNat_widx x hj
  have word : s.windowWord (x.widx j) = wordOf (s.array x) j := by
    rw [windowWord_array s x (by omega) (by omega), index, Nat.add_sub_cancel_left]
  rw [word, extractLsb'_wordOf _ j hm]
  cases x <;> rfl

/-! ### Reads -/

/-- A read of a word that `BUSY` does not hide returns the word. -/
theorem runOp_read_defined {s : State} {widx : WordIndex} (low : s.rst = false)
    (shown : s.busy = false ∨ ¬ (32 ≤ widx.toNat ∧ widx.toNat < 96)) :
    runOp (.read widx) s = .next { s with rdata := s.windowWord widx } := by
  have defined : s.readIsFree widx = false := by
    obtain idle | outside := shown
    · simp [State.readIsFree, low, idle]
    · simp only [State.readIsFree, low, outside]; simp
  rw [runOp, read_of_defined defined]

theorem runOp_read_busy {s : State} {widx : WordIndex} (busy : s.busy = true) (first : 32 ≤ widx.toNat)
    (last : widx.toNat < 96) :
    runOp (.read widx) s = .next { s with rdata := Config.any32 s.draws, draws := s.draws + 1 } := by
  rw [runOp, read_of_free (by simp [State.readIsFree, busy, first, last])]

/-- A read of a word of an array that `BUSY` does not hide returns the array's word. -/
theorem runOp_read_array {s : State} {widx : WordIndex} (x : ArrayName) (low : s.rst = false)
    (shown : s.busy = false ∨ x = .din) (first : x.firstWord ≤ widx.toNat) (last : widx.toNat < x.firstWord + 16) :
    runOp (.read widx) s = .next { s with rdata := wordOf (s.array x) (widx.toNat - x.firstWord) } := by
  rw [← windowWord_array s x first last]
  refine runOp_read_defined low (shown.imp_right ?_)
  rintro rfl
  simp only [ArrayName.firstWord] at last
  omega

/-- Settles O28: each word index is `STATUS`, a word of one array, or reserved, and `BUSY` hides the four arrays after `DIN`. -/
theorem hostReadReturns : Obligations.HostReadReturns := by
  unfold Obligations.HostReadReturns
  intro s widx low
  refine ⟨fun cmd => ?_, fun status => ?_, fun first last => ?_, fun first last busy => ?_, fun first last idle => ?_,
    fun first last idle => ?_, fun first last idle => ?_, fun first last idle => ?_, fun reserved => ?_⟩
  · rw [runOp_read_defined low (.inr (by omega)), windowWord_reserved s (by omega) (by omega)]
  · rw [runOp_read_defined low (.inr (by omega)), windowWord_status s status]
  · exact runOp_read_array .din low (.inr rfl) first last
  · exact runOp_read_busy busy first last
  · exact runOp_read_array .dout low (.inl idle) first last
  · exact runOp_read_array .h low (.inl idle) first last
  · exact runOp_read_array .n low (.inl idle) first last
  · exact runOp_read_array .sigma low (.inl idle) first last
  · rw [runOp_read_defined low (.inr (by omega)), windowWord_reserved s (by omega) (by omega)]

/-! ### Writes -/

theorem runOp_write {s : State} (widx : WordIndex) (v : Word) (low : s.rst = false) :
    runOp (.write widx v) s = portWrite widx v s := by
  simp [runOp, low]

theorem portWrite_cmd {widx : WordIndex} (v : Word) (s : State) (cmd : widx.toNat = 0) :
    portWrite widx v s = issueCommand v s := by
  simp [portWrite, cmd]

theorem portWrite_status {widx : WordIndex} (v : Word) (s : State) (status : widx.toNat = 1) :
    portWrite widx v s = .next (s.writeStatus v) := by
  simp [portWrite, status]

/-- A write of a read-only or a reserved word is ignored. -/
theorem portWrite_ignored {widx : WordIndex} (v : Word) (s : State)
    (readOnly : (2 ≤ widx.toNat ∧ widx.toNat < 16) ∨ 32 ≤ widx.toNat) : portWrite widx v s = .next s := by
  simp (disch := omega) only [portWrite, if_neg]

/-- Settles O29: the word index names one of the five kinds of write. -/
theorem hostWriteEffects : Obligations.HostWriteEffects := by
  unfold Obligations.HostWriteEffects
  intro s widx v low
  rw [runOp_write widx v low]
  refine ⟨portWrite_cmd v s, portWrite_status v s, fun first last busy => ?_, fun first last idle => ?_, portWrite_ignored v s⟩
  · rw [portWrite_of_busy widx v busy, if_pos (.inr ⟨first, last⟩)]; rfl
  · refine ⟨_, portWrite_din v first last idle, fun m hm => ?_, fun i hi other => ?_⟩
    · have word : (4 * (widx.toNat - 16) + m) / 4 = widx.toNat - 16 := by omega
      have byte : (4 * (widx.toNat - 16) + m) % 4 = m := by omega
      rw [byteAt_putWord _ _ _ (by omega), if_pos word, byte]
    · rw [byteAt_putWord _ _ _ hi, if_neg other]

/-! ### The step of a command write -/

/-- On the host's turn, a write of `CMD` is the step's whole effect (R71). -/
theorem step_cmdWrite {s : State} {v : Word} {rest : List HostOp} (low : s.rst = false) (turn : s.nextTurn = .host)
    (ops : s.ops = .write 0#7 v :: rest) : step s = issueCommand v (s.takeTurn.withOps rest) := by
  rw [step_eq_stepWith, stepWith_of_low _ low, turn, runTurn, hostTurn_of_ops (show s.takeTurn.ops = _ from ops),
    runOp_write _ _ (show (s.takeTurn.withOps rest).rst = false from low), portWrite_cmd _ _ rfl]

theorem issueCommand_of_decode {v : Word} {i : Instr} (s : State) (decoded : decode v = .command i) :
    issueCommand v s = exec i s := by
  simp [issueCommand, decoded]

/-- Settles O6: the step is the command write, and the write is what its word decodes to. -/
theorem stepRunsDecodedCommand : Obligations.StepRunsDecodedCommand := by
  unfold Obligations.StepRunsDecodedCommand
  intro s v rest low turn ops
  rw [step_cmdWrite low turn ops]
  refine ⟨fun i decoded => issueCommand_of_decode _ decoded, fun why illegal => ?_⟩
  rw [issueCommand, illegal]
  rfl

theorem decode_tableWord {nbits w : Nat} {i : Instr} (h : decodeTableWord nbits w = some i) :
    decode (tableWord nbits w) = .command i := by
  unfold decodeTableWord at h
  split at h
  next decoded => cases h; exact decoded
  next => cases h

/-- Settles O7: `withFetchWord` makes the next step the write of the row's word, and taking it leaves nothing placed. -/
theorem fetchWordRunsTableWord : Obligations.FetchWordRunsTableWord := by
  unfold Obligations.FetchWordRunsTableWord
  intro s w i row
  rw [step_cmdWrite (withFetchWord_rst 32 w s) rfl (withFetchWord_ops 32 w s), issueCommand_of_decode _ (decode_tableWord row)]
  rfl

end Sys2Proof.Machine
end

section
/-! SUPPORT. Engines side by side on a platform (spec/20_memory.md R60, R61, R64, R74). -/

namespace Sys2Proof.Machine

/-! ### One engine of a platform -/

/-- An access to an engine is its port's access, from the registers as `rst` holds them. -/
theorem deliver_of_runOp {a : BusAccess} {e : Placed} {s : State} (h : runOp a.op e.engine.holdReset = .next s) :
    e.deliver a = .next { e with engine := s } := by
  simp [Placed.deliver, h]

theorem deliver_next {a : BusAccess} {e e' : Placed} (h : e.deliver a = .next e') : ∃ s, e' = { e with engine := s } := by
  unfold Placed.deliver at h
  split at h
  next s _ => cases h; exact ⟨s, rfl⟩
  next => cases h
  next => cases h

/-- Another state of an engine in its place moves no window. -/
theorem map_block_set {p : Platform} {k : Nat} {e : Placed} (s : State) (at_k : p[k]? = some e) :
    (p.set k { e with engine := s }).map Placed.block = p.map Placed.block := by
  obtain ⟨hk, rfl⟩ := List.getElem?_eq_some_iff.1 at_k
  refine List.ext_getElem (by simp) fun j _ _ => ?_
  by_cases here : k = j
  · subst here; simp
  · simp [List.getElem_set_ne here]

/-- An address lies in an engine's window exactly when its block is the engine's (R8). -/
theorem inWindow_iff (e : Placed) (addr : Nat) : (e.base ≤ addr ∧ addr < e.base + 0x200) ↔ e.block = addr / 0x200 := by
  unfold Placed.base
  omega

/-! ### Routing -/

/-- An access that is answered was delivered to one engine whose window holds the address. -/
theorem route_next {a : BusAccess} {p q : Platform} (h : p.route a = .next q) :
    ∃ (k : Nat) (e : Placed) (s : State), p[k]? = some e ∧ e.block = a.addr / 0x200 ∧ q = p.set k { e with engine := s } := by
  induction p generalizing q with
  | nil => cases h
  | cons e rest ih =>
    unfold Platform.route at h
    split at h
    next here =>
      split at h
      next e' delivered =>
        obtain ⟨s, rfl⟩ := deliver_next delivered
        cases h
        exact ⟨0, e, s, rfl, here, rfl⟩
      next => cases h
      next => cases h
    next =>
      split at h
      next rest' routed =>
        obtain ⟨k, x, s, at_k, block, rfl⟩ := ih routed
        cases h
        exact ⟨k + 1, x, s, at_k, block, rfl⟩
      next => cases h
      next => cases h

/-- With no two windows at one place, the access reaches the engine whose window holds the address. -/
theorem route_of_deliver {a : BusAccess} {p : Platform} {j : Nat} {e e' : Placed} (distinct : (p.map Placed.block).Nodup)
    (at_j : p[j]? = some e) (block : e.block = a.addr / 0x200) (delivered : e.deliver a = .next e') :
    p.route a = .next (p.set j e') := by
  induction p generalizing j with
  | nil => cases at_j
  | cons x rest ih =>
    obtain ⟨fresh, distinct⟩ := List.nodup_cons.1 distinct
    cases j with
    | zero =>
      obtain rfl : x = e := by simpa using at_j
      simp [Platform.route, block, delivered]
    | succ j =>
      have at_j' : rest[j]? = some e := by simpa using at_j
      have elsewhere : x.block ≠ a.addr / 0x200 := fun here =>
        fresh (here ▸ block ▸ List.mem_map_of_mem (List.mem_of_getElem? at_j'))
      simp [Platform.route, elsewhere, ih distinct at_j']

theorem route_outside {a : BusAccess} {p : Platform} (outside : ∀ e ∈ p, e.block ≠ a.addr / 0x200) :
    p.route a = .refused .outsideWindows := by
  induction p with
  | nil => rfl
  | cons x rest ih =>
    have elsewhere := outside x List.mem_cons_self
    simp [Platform.route, elsewhere, ih fun e he => outside e (List.mem_cons_of_mem x he)]

theorem access_eq_route {a : BusAccess} (p : Platform) (size : a.size = 4) (aligned : a.addr % 4 = 0) :
    p.access a = p.route a := by
  simp [Platform.access, size, aligned]

theorem route_of_access_next {a : BusAccess} {p q : Platform} (h : p.access a = .next q) : p.route a = .next q := by
  unfold Platform.access at h
  split at h
  next => cases h
  next =>
    split at h
    next => cases h
    next => exact h

/-- Settles O58: the three checks of an access, in their order. -/
theorem busRefusesOtherAccesses : Obligations.BusRefusesOtherAccesses := by
  unfold Obligations.BusRefusesOtherAccesses
  intro p a
  refine ⟨fun size => by simp [Platform.access, size], fun size odd => by simp [Platform.access, size, odd],
    fun size aligned outside => ?_⟩
  rw [access_eq_route p size aligned]
  exact route_outside fun e he here => outside e he ((inWindow_iff e a.addr).2 here)

/-! ### Other engines -/

theorem stepAt_next {tb : Tables} {p q : Platform} {k : Nat} (h : p.stepAt tb k = .next q) :
    ∃ (e : Placed) (s : State), p[k]? = some e ∧ q = p.set k { e with engine := s } := by
  unfold Platform.stepAt at h
  split at h
  next => cases h
  next e at_k =>
    split at h
    next s _ => cases h; exact ⟨e, s, at_k, rfl⟩
    next => cases h
    next => cases h

/-- Settles O59: a step and an access put one engine's next state in its place, and the access in a window that holds the
address. -/
theorem enginesAreIndependent : Obligations.EnginesAreIndependent := by
  unfold Obligations.EnginesAreIndependent
  refine ⟨fun tables p q k stepped => ?_, fun p q a accessed => ?_⟩
  · obtain ⟨e, s, at_k, rfl⟩ := stepAt_next stepped
    exact ⟨map_block_set s at_k, fun j other => List.getElem?_set_ne other.symm⟩
  · obtain ⟨k, e, s, at_k, block, rfl⟩ := route_next (route_of_access_next accessed)
    refine ⟨map_block_set s at_k, fun j x at_j outside => ?_⟩
    have other : k ≠ j := by
      rintro rfl
      obtain rfl : e = x := Option.some.inj (at_k.symm.trans at_j)
      exact outside ((inWindow_iff e a.addr).2 block)
    rw [List.getElem?_set_ne other, at_j]

/-! ### The engine addressed -/

/-- The whole-word access at `BASE + 4·widx` of an engine (R61). -/
def Placed.wordAccess (e : Placed) (widx : WordIndex) (data : Option Word) : BusAccess :=
  { addr := e.base + 4 * widx.toNat, size := 4, data := data }

/-- The address is aligned, lies in the engine's window, and names the word. -/
theorem wordAccess_addr (e : Placed) (widx : WordIndex) (data : Option Word) :
    (e.wordAccess widx data).addr % 4 = 0 ∧ e.block = (e.wordAccess widx data).addr / 0x200 ∧
    widxOf (e.wordAccess widx data).addr = widx := by
  have small := widx.isLt
  simp only [Placed.wordAccess, Placed.base]
  refine ⟨by omega, by omega, BitVec.eq_of_toNat_eq ?_⟩
  rw [widxOf, BitVec.toNat_ofNat]
  omega

theorem wordAccess_write_op (e : Placed) (widx : WordIndex) (v : Word) :
    (e.wordAccess widx (some v)).op = .write widx v := by
  obtain ⟨-, -, word⟩ := wordAccess_addr e widx (some v)
  exact congrArg (HostOp.write · v) word

theorem wordAccess_read_op (e : Placed) (widx : WordIndex) : (e.wordAccess widx none).op = .read widx := by
  obtain ⟨-, -, word⟩ := wordAccess_addr e widx none
  exact congrArg HostOp.read word

/-- The access leaves the addressed engine as its port's operation leaves it, and the rest of the platform as it was. -/
theorem access_wordAccess {p : Platform} {j : Nat} {e : Placed} {widx : WordIndex} {data : Option Word} {s : State}
    (wf : p.wf = true) (at_j : p[j]? = some e) (answer : runOp (e.wordAccess widx data).op e.engine.holdReset = .next s) :
    p.access (e.wordAccess widx data) = .next (p.set j { e with engine := s }) := by
  obtain ⟨aligned, block, -⟩ := wordAccess_addr e widx data
  obtain ⟨-, distinct⟩ := of_decide_eq_true wf
  rw [access_eq_route p rfl aligned]
  exact route_of_deliver distinct at_j block (deliver_of_runOp answer)

/-- Settles O57: the access is the port's operation on the word; under reset a write has no effect and a read is free. -/
theorem busAddressReachesWord : Obligations.BusAddressReachesWord := by
  unfold Obligations.BusAddressReachesWord
  intro p j e widx wf at_j
  refine ⟨fun low data => ?_, fun high v => access_wordAccess wf at_j ?_, fun high => access_wordAccess wf at_j ?_⟩
  · obtain ⟨s, answer, -⟩ := runOp_turns (e.wordAccess widx data).op e.engine
    refine ⟨s, ?_, access_wordAccess wf at_j (by rwa [holdReset_of_low low])⟩
    cases data with
    | some v => rwa [wordAccess_write_op] at answer
    | none => rwa [wordAccess_read_op] at answer
  · rw [wordAccess_write_op, holdReset_of_high high, runOp, if_pos (show e.engine.resetRegisters.rst = true from high)]
  · have free : e.engine.resetRegisters.readIsFree widx = true := by simp [State.readIsFree, high]
    rw [wordAccess_read_op, holdReset_of_high high, runOp, read_of_free free]
    rfl

end Sys2Proof.Machine
end

section
/-! SUPPORT. The command words (spec/30_encoding.md R90 to R98): the decoder and the encoder are inverse to each other, and which
words are commands. -/

namespace Sys2Proof.Machine

/-! ### The decoder -/

/-- A word decodes to a command exactly when it has the command's `OP`, sets no bit outside its `ALLOWED` mask (R92), and holds its
operand (R93). -/
theorem decode_eq_command_iff {v : Word} {i : Instr} :
    decode v = .command i ↔
      (opField v = 0x1#4 ∧ v &&& ~~~allowedInit = 0#32 ∧ i = .init (sizeField v)) ∨
      (opField v = 0x2#4 ∧ v &&& ~~~allowedUpdate = 0#32 ∧ i = .update) ∨
      (opField v = 0x3#4 ∧ v &&& ~~~allowedFinalize = 0#32 ∧ i = .finalize (posField v)) := by
  refine ⟨decode_command, ?_⟩
  rintro (⟨op, allowed, rfl⟩ | ⟨op, allowed, rfl⟩ | ⟨op, allowed, rfl⟩) <;> simp [decode, op, allowed]

theorem toNat_opField (v : Word) : (opField v).toNat = v.toNat % 2 ^ 4 := by
  rw [opField, toNat_field, Nat.pow_zero, Nat.div_one]

theorem sizeField_eq (v : Word) : sizeField v = v.toNat / 2 ^ 8 % 2 ^ 8 := toNat_field v 8 8

theorem posField_eq (v : Word) : posField v = v.toNat / 2 ^ 16 % 2 ^ 6 := toNat_field v 16 6

/-- The low four bits of a word, masked out, are its `OP`. -/
theorem and_opMask (v : Word) : v &&& 0xF#32 = (opField v).setWidth 32 := by
  refine BitVec.eq_of_toNat_eq ?_
  rw [BitVec.toNat_and, BitVec.toNat_setWidth_of_le (by decide), toNat_opField]
  exact Nat.and_two_pow_sub_one_eq_mod v.toNat 4

theorem opField_eq_iff (v : Word) (op : BitVec 4) : opField v = op ↔ v &&& 0xF#32 = op.setWidth 32 := by
  rw [and_opMask]
  refine ⟨congrArg _, fun eq => ?_⟩
  simpa using congrArg (BitVec.setWidth 4) eq

/-- Settles O3: the cases of the decoder, with `OP` as a masked word. -/
theorem legalWordsByMask : Obligations.LegalWordsByMask := by
  unfold Obligations.LegalWordsByMask
  intro v
  have init := opField_eq_iff v 0x1#4
  have update := opField_eq_iff v 0x2#4
  have finalize := opField_eq_iff v 0x3#4
  refine ⟨?_, ?_, ?_⟩
  · simp [decode_eq_command_iff, init, allowedInit]
  · simp [decode_eq_command_iff, update, allowedUpdate]
  · simp [decode_eq_command_iff, finalize, allowedFinalize]

/-! ### The encoder -/

/-- `OP` and an operand at bit `start` do not overlap, so a command word is their sum. -/
theorem toNat_op_or_operand {op operand start : Nat} (small : op < 2 ^ start) (fits : op + operand * 2 ^ start < 2 ^ 32) :
    (BitVec.ofNat 32 op ||| (BitVec.ofNat 32 operand <<< start)).toNat = op + operand * 2 ^ start := by
  have operand_le : operand ≤ operand * 2 ^ start := Nat.le_mul_of_pos_right operand (by positivity)
  have shifted : (BitVec.ofNat 32 operand <<< start).toNat = operand <<< start := by
    rw [BitVec.toNat_shiftLeft, BitVec.toNat_ofNat, Nat.mod_eq_of_lt (show operand < 2 ^ 32 by omega), Nat.shiftLeft_eq]
    exact Nat.mod_eq_of_lt (by omega)
  rw [BitVec.toNat_or, shifted, BitVec.toNat_ofNat, Nat.mod_eq_of_lt (by omega), Nat.or_comm,
    ← Nat.shiftLeft_add_eq_or_of_lt small, Nat.shiftLeft_eq, Nat.add_comm]

theorem toNat_encode_init {size : Nat} (h : size < 256) : (encode (.init size)).toNat = 1 + size * 2 ^ 8 :=
  toNat_op_or_operand (by decide) (by omega)

theorem toNat_encode_finalize {pos : Nat} (h : pos < 64) : (encode (.finalize pos)).toNat = 3 + pos * 2 ^ 16 :=
  toNat_op_or_operand (by decide) (by omega)

/-- Settles O1: the word of a command has its `OP`, keeps to its mask, and holds its operand in the operand's field. -/
theorem decodeOfEncode : Obligations.DecodeOfEncode := by
  unfold Obligations.DecodeOfEncode
  intro i wf
  rw [decode_eq_command_iff]
  cases i with
  | init size =>
    have small : size < 256 := of_decide_eq_true wf
    have word := toNat_encode_init small
    have op : opField (encode (.init size)) = 0x1#4 :=
      BitVec.eq_of_toNat_eq (by rw [toNat_opField, word, BitVec.toNat_ofNat]; omega)
    have operand : sizeField (encode (.init size)) = size := by rw [sizeField_eq, word]; omega
    exact .inl ⟨op, Laws.EncodeFits.init size wf, by rw [operand]⟩
  | update => exact .inr (.inl ⟨by decide, Laws.EncodeFits.update wf, rfl⟩)
  | finalize pos =>
    have small : pos < 64 := of_decide_eq_true wf
    have word := toNat_encode_finalize small
    have op : opField (encode (.finalize pos)) = 0x3#4 :=
      BitVec.eq_of_toNat_eq (by rw [toNat_opField, word, BitVec.toNat_ofNat]; omega)
    have operand : posField (encode (.finalize pos)) = pos := by rw [posField_eq, word]; omega
    exact .inr (.inr ⟨op, Laws.EncodeFits.finalize pos wf, by rw [operand]⟩)

/-! ### A legal word is its command's word -/

/-- A word that keeps to a mask is zero in every field outside the mask. -/
theorem field_outside_mask {v mask : Word} (allowed : v &&& ~~~mask = 0#32) (start len : Nat)
    (outside : (~~~mask).extractLsb' start len = BitVec.allOnes len) : v.toNat / 2 ^ start % 2 ^ len = 0 := by
  have field : v.extractLsb' start len = 0#len := by
    calc v.extractLsb' start len = (v &&& ~~~mask).extractLsb' start len := by
          rw [BitVec.extractLsb'_and, outside, BitVec.and_allOnes]
      _ = 0#len := by rw [allowed]; simp
  rw [← toNat_field, field]
  simp

/-- Settles O2: outside `OP` and the operand's field a legal word is zero, so the two determine it. -/
theorem encodeOfDecode : Obligations.EncodeOfDecode := by
  unfold Obligations.EncodeOfDecode
  intro v i decoded
  refine ⟨decode_wellFormed decoded, BitVec.eq_of_toNat_eq ?_⟩
  have bound := v.isLt
  obtain ⟨op, allowed, rfl⟩ | ⟨op, allowed, rfl⟩ | ⟨op, allowed, rfl⟩ := decode_command decoded
  · have low : v.toNat % 2 ^ 4 = 1 := by rw [← toNat_opField, op]; rfl
    have middle := field_outside_mask allowed 4 4 (by decide)
    have high := field_outside_mask allowed 16 16 (by decide)
    rw [toNat_encode_init (sizeField_lt v), sizeField_eq]
    omega
  · have low : v.toNat % 2 ^ 4 = 2 := by rw [← toNat_opField, op]; rfl
    have high := field_outside_mask allowed 4 28 (by decide)
    rw [show (encode .update).toNat = 2 from rfl]
    omega
  · have low : v.toNat % 2 ^ 4 = 3 := by rw [← toNat_opField, op]; rfl
    have middle := field_outside_mask allowed 4 12 (by decide)
    have high := field_outside_mask allowed 22 10 (by decide)
    rw [toNat_encode_finalize (posField_lt v), posField_eq]
    omega

/-! ### The list of all command words -/

/-- Every well-formed command, once: 256 INIT, one UPDATE, 64 FINALIZE (R95). -/
def wellFormedCommands : List Instr :=
  (List.range 256).map .init ++ .update :: (List.range 64).map .finalize

theorem mem_wellFormedCommands {i : Instr} : i ∈ wellFormedCommands ↔ i.wellFormed = true := by
  cases i <;> simp [wellFormedCommands, Instr.wellFormed]

theorem nodup_wellFormedCommands : wellFormedCommands.Nodup := by
  have inits : ((List.range 256).map Instr.init).Nodup := List.nodup_range.map fun _ _ => Instr.init.inj
  have finalizes : ((List.range 64).map Instr.finalize).Nodup := List.nodup_range.map fun _ _ => Instr.finalize.inj
  simp [wellFormedCommands, List.nodup_append, inits, finalizes]

/-- The encoder is injective on well-formed commands, since the decoder undoes it. -/
theorem nodup_commandWords : (wellFormedCommands.map encode).Nodup := by
  refine List.Nodup.map_on (fun i hi j hj same => ?_) nodup_wellFormedCommands
  rw [mem_wellFormedCommands] at hi hj
  simpa [decodeOfEncode i hi, decodeOfEncode j hj] using congrArg decode same

theorem mem_commandWords {v : Word} : v ∈ wellFormedCommands.map encode ↔ ∃ i, decode v = .command i := by
  simp only [List.mem_map, mem_wellFormedCommands]
  constructor
  · rintro ⟨i, wf, rfl⟩
    exact ⟨i, decodeOfEncode i wf⟩
  · rintro ⟨i, decoded⟩
    exact ⟨i, encodeOfDecode v i decoded⟩

/-- Settles O4: the words of the well-formed commands are the list, and any other word is ILLEGAL. -/
theorem legalWordCount : Obligations.LegalWordCount := by
  unfold Obligations.LegalWordCount
  refine ⟨⟨_, nodup_commandWords, by simp [wellFormedCommands], fun v => mem_commandWords⟩, fun v s noCommand idle => ?_⟩
  cases decoded : decode v with
  | command i => exact absurd ⟨i, decoded⟩ noCommand
  | illegal why => rw [issueCommand_illegal idle decoded, State.raise]

/-- Settles O5: the decoder evaluates to the table's rows. -/
theorem listedWordsDecode : Obligations.ListedWordsDecode := by
  unfold Obligations.ListedWordsDecode
  decide

end Sys2Proof.Machine
end

section
/-! SUPPORT. The polling loop `WAIT` (spec/30_encoding.md R97, spec/20_memory.md R70): what a poll does, and that no turn but a poll
of an idle engine ends the loop. -/

namespace Sys2Proof.Machine

/-! ### One poll -/

theorem getLsbD_statusWord_busy (s : State) : (statusWord s).getLsbD 2 = s.busy := by
  obtain ⟨-, busy, -⟩ := statusFields s
  exact busy

theorem read_status {s : State} (low : s.rst = false) : s.read 1#7 = { s with rdata := statusWord s } := by
  rw [read_of_defined (by simp [State.readIsFree, low]), windowWord_status s rfl]

theorem waitPoll_of_idle {s : State} (low : s.rst = false) (idle : s.busy = false) :
    s.waitPoll = { s with rdata := statusWord s } := by
  simp only [State.waitPoll, read_status low, getLsbD_statusWord_busy, idle]
  rfl

theorem waitPoll_of_busy {s : State} (low : s.rst = false) (busy : s.busy = true) :
    s.waitPoll = { s with rdata := statusWord s, ops := .wait :: s.ops } := by
  simp only [State.waitPoll, read_status low, getLsbD_statusWord_busy, busy]
  rfl

/-- The host's turn, with `WAIT` its next operation, is one poll. -/
theorem stepWith_wait (tb : Tables) {s : State} {rest : List HostOp} (low : s.rst = false) (turn : s.nextTurn = .host)
    (ops : s.ops = .wait :: rest) : stepWith tb s = .next (s.takeTurn.withOps rest).waitPoll := by
  rw [stepWith_of_low tb low, turn, runTurn, hostTurn_of_ops (show s.takeTurn.ops = _ from ops), runOp]

/-! ### The loop -/

/-- The host is in a `WAIT` with the operations `rest` after it, and `rst` stays low. -/
structure State.Waiting (rest : List HostOp) (s : State) : Prop where
  inv     : s.Inv
  low     : s.rst = false
  noReset : .reset true ∉ s.turns
  ops     : s.ops = .wait :: rest

/-- The loop is over, its last read having shown `BUSY` = 0. -/
def State.WaitOver (rest : List HostOp) (t : State) : Prop := t.ops = rest ∧ t.busy = false ∧ t.rdata = statusWord t

/-- A poll of an idle engine ends the loop. -/
theorem State.Waiting.ends (tb : Tables) {rest : List HostOp} {s : State} (waiting : s.Waiting rest) (turn : s.nextTurn = .host)
    (idle : s.busy = false) : ∃ t, stepWith tb s = .next t ∧ t.WaitOver rest := by
  have poll := waitPoll_of_idle (s := s.takeTurn.withOps rest) waiting.low idle
  refine ⟨_, stepWith_wait tb waiting.low turn waiting.ops, ?_⟩
  rw [poll]
  exact ⟨rfl, idle, by unfold statusWord; rfl⟩

theorem State.Waiting.nextTurn_ne_reset {rest : List HostOp} {s : State} (waiting : s.Waiting rest) :
    s.nextTurn ≠ .reset true := by
  cases turns : s.turns with
  | nil =>
    simp only [State.nextTurn, turns, State.fairTurn]
    split <;> simp
  | cons turn ts =>
    rw [nextTurn_of_turns turns]
    rintro rfl
    exact waiting.noReset (turns ▸ List.mem_cons_self)

/-- Any other turn leaves the loop as it is: a poll of a busy engine is repeated. -/
theorem State.Waiting.step (tb : Tables) {rest : List HostOp} {s : State} (waiting : s.Waiting rest)
    (busy : s.nextTurn = .host → s.busy = true) : ∃ t, stepWith tb s = .next t ∧ t.Waiting rest := by
  have kept : ∃ t, stepWith tb s = .next t ∧ t.rst = false ∧ t.ops = .wait :: rest := by
    cases turn : s.nextTurn with
    | host =>
      have poll := waitPoll_of_busy (s := s.takeTurn.withOps rest) waiting.low (busy turn)
      exact ⟨_, stepWith_wait tb waiting.low turn waiting.ops, by rw [poll]; exact waiting.low, by rw [poll]; rfl⟩
    | complete =>
      exact ⟨_, by rw [stepWith_of_low tb waiting.low, turn]; rfl, by simp [waiting.low], by simp [waiting.ops]⟩
    | work => exact ⟨s.takeTurn.workOn tb, by rw [stepWith_of_low tb waiting.low, turn]; rfl, waiting.low, waiting.ops⟩
    | reset level =>
      obtain rfl : level = false := by simpa [turn] using waiting.nextTurn_ne_reset
      exact ⟨_, stepWith_release_low tb turn waiting.low, waiting.low, waiting.ops⟩
  obtain ⟨t, step, low, ops⟩ := kept
  refine ⟨t, step, (stepped_of_stepWith step).inv waiting.inv, low, fun reset => waiting.noReset ?_, ops⟩
  rw [stepWith_turns step] at reset
  exact List.mem_of_mem_tail reset

/-! ### Its end -/

theorem run_one {tb : Tables} {s t : State} (step : stepWith tb s = .next t) : run tb 1 s = .next t :=
  run_succ_of_next 0 step

/-- In the fair order a poll of an idle engine comes at once, or after the completion. -/
theorem State.Waiting.ends_in_fair_order (tb : Tables) {rest : List HostOp} {s : State} (waiting : s.Waiting rest)
    (fair : s.turns = []) : ∃ k t, k ≤ 2 ∧ run tb k s = .next t ∧ t.WaitOver rest := by
  have order : s.nextTurn = s.fairTurn := by simp [State.nextTurn, fair]
  cases busy : s.busy with
  | false =>
    obtain ⟨t, step, ended⟩ := waiting.ends tb (by simp [order, State.fairTurn, busy]) busy
    exact ⟨1, t, by omega, run_one step, ended⟩
  | true =>
    have turn : s.nextTurn = .complete := by simp [order, State.fairTurn, busy]
    obtain ⟨t, step, waiting'⟩ := waiting.step tb fun _ => busy
    have turns : t.turns = [] := by rw [stepWith_turns step, fair]; rfl
    have idle : t.busy = false := by
      obtain rfl : s.takeTurn.complete tb = t := by simpa [stepWith_of_low tb waiting.low, turn, runTurn] using step
      rw [waiting'.inv.running, complete_work]
      rfl
    obtain ⟨u, step', ended⟩ := waiting'.ends tb (by simp [State.nextTurn, turns, State.fairTurn, idle]) idle
    exact ⟨2, u, le_rfl, by rw [run_succ_of_next 1 step, run_one step'], ended⟩

/-- Each listed turn ends the loop or goes by, and after the last the order is fair. -/
theorem State.Waiting.ends_after_turns (tb : Tables) {rest : List HostOp} {s : State} (waiting : s.Waiting rest)
    {ts : List Turn} (turns : s.turns = ts) :
    ∃ k t, k ≤ ts.length + 2 ∧ run tb k s = .next t ∧ t.WaitOver rest := by
  induction ts generalizing s with
  | nil => exact waiting.ends_in_fair_order tb turns
  | cons turn ts ih =>
    by_cases last : s.nextTurn = .host ∧ s.busy = false
    · obtain ⟨t, step, ended⟩ := waiting.ends tb last.1 last.2
      exact ⟨1, t, by simp, run_one step, ended⟩
    · obtain ⟨u, step, waiting'⟩ := waiting.step tb fun host => by simpa [host] using last
      obtain ⟨k, t, bound, ran, ended⟩ := ih waiting' (by rw [stepWith_turns step, turns]; rfl)
      exact ⟨k + 1, t, by simpa using bound, by rw [run_succ_of_next k step, ran], ended⟩

/-- Settles O55: by induction on the listed turns. -/
theorem waitTerminates : Obligations.WaitTerminates := by
  unfold Obligations.WaitTerminates
  intro tables s rest inv low noReset ops
  have waiting : s.Waiting rest := ⟨inv, low, noReset, ops⟩
  exact waiting.ends_after_turns tables rfl

end Sys2Proof.Machine
end

section
/-! SUPPORT. Maps of 64-bit words that are linear over GF(2), and a limb as the exclusive-or of its bits (spec/40_lps.md R123). -/

namespace Sys2Proof.Machine

theorem xorTo_eq_zero {n : Nat} {f : Nat → Limb} (h : ∀ i, i < n → f i = 0#64) : xorTo n f = 0#64 := by
  induction n with
  | zero => rfl
  | succ k ih => rw [xorTo_succ, ih fun i hi => h i (by omega), h k (by omega), BitVec.xor_self]

/-- Where only the value at `k` is not zero, the exclusive-or is that value. -/
theorem xorTo_eq_single {n k : Nat} {f : Nat → Limb} (hk : k < n) (h : ∀ i, i < n → i ≠ k → f i = 0#64) :
    xorTo n f = f k := by
  induction n with
  | zero => omega
  | succ m ih =>
    rw [xorTo_succ]
    by_cases last : k = m
    · rw [xorTo_eq_zero fun i hi => h i (by omega) (by omega), BitVec.zero_xor, last]
    · rw [ih (by omega) fun i hi => h i (by omega), h m (by omega) (by omega), BitVec.xor_zero]

/-! ### Linearity -/

/-- Linear over GF(2). -/
def XorLinear (f : Limb → Limb) : Prop := ∀ a b, f (a ^^^ b) = f a ^^^ f b

theorem XorLinear.map_zero {f : Limb → Limb} (hf : XorLinear f) : f 0#64 = 0#64 := by
  have twice := hf 0#64 0#64
  rwa [BitVec.xor_self, BitVec.xor_self] at twice

theorem XorLinear.map_xorTo {f : Limb → Limb} (hf : XorLinear f) (n : Nat) (v : Nat → Limb) :
    f (xorTo n v) = xorTo n fun i => f (v i) := by
  induction n with
  | zero => exact hf.map_zero
  | succ k ih => rw [xorTo_succ, xorTo_succ, hf, ih]

theorem XorLinear.comp {f f' : Limb → Limb} (hf : XorLinear f) (hf' : XorLinear f') : XorLinear fun w => f (f' w) :=
  fun a b => (congrArg f (hf' a b)).trans (hf (f' a) (f' b))

theorem xorLinear_shiftLeft (n : Nat) : XorLinear (· <<< n) := fun a b => BitVec.shiftLeft_xor_distrib a b n

/-! ### Bits -/

/-- Bit `t` of `w`, alone in its place. -/
def bitOf (w : Limb) (t : Nat) : Limb := if w.getLsbD t then 1#64 <<< t else 0#64

theorem getLsbD_bitOf (w : Limb) (t i : Nat) : (bitOf w t).getLsbD i = (decide (i = t) && w.getLsbD i) := by
  unfold bitOf
  by_cases here : i = t
  · subst here
    cases bit : w.getLsbD i with
    | false => simp
    | true => simp [BitVec.lt_of_getLsbD bit]
  · have gone : (1#64 <<< t).getLsbD i = false := by simp; omega
    split <;> simp [here, gone]

theorem getLsbD_xorTo_bitOf (w : Limb) (n i : Nat) :
    (xorTo n (bitOf w)).getLsbD i = (decide (i < n) && w.getLsbD i) := by
  induction n with
  | zero => simp
  | succ k ih =>
    rw [xorTo_succ, BitVec.getLsbD_xor, ih, getLsbD_bitOf]
    obtain low | rfl | high := lt_trichotomy i k
    · simp [low, Nat.lt_succ_of_lt low, low.ne]
    · simp
    · simp [show ¬ i < k by omega, show ¬ i < k + 1 by omega, high.ne']

theorem xorTo_bitOf {w : Limb} {n : Nat} (h : w.toNat < 2 ^ n) : xorTo n (bitOf w) = w := by
  refine BitVec.eq_of_getLsbD_eq fun i _ => ?_
  rw [getLsbD_xorTo_bitOf]
  by_cases low : i < n
  · simp [low]
  · simp [low, BitVec.getLsbD, Nat.testBit_lt_two_pow (h.trans_le (Nat.pow_le_pow_right (by decide) (not_lt.1 low)))]

/-- A linear map of a word is the exclusive-or of its values at the bits of the word. -/
theorem XorLinear.eq_xorTo {f : Limb → Limb} (hf : XorLinear f) {w : Limb} {n : Nat} (h : w.toNat < 2 ^ n) :
    f w = xorTo n fun t => if w.getLsbD t then f (1#64 <<< t) else 0#64 :=
  calc f w = f (xorTo n (bitOf w)) := by rw [xorTo_bitOf h]
    _ = xorTo n fun t => f (bitOf w t) := hf.map_xorTo n (bitOf w)
    _ = _ := xorTo_congr fun t _ => by rw [bitOf, apply_ite f, hf.map_zero]

/-- Linear maps that agree on the 64 one-bit words are equal. -/
theorem XorLinear.ext {f f' : Limb → Limb} (hf : XorLinear f) (hf' : XorLinear f')
    (agree : ∀ n, n < 64 → f (1#64 <<< n) = f' (1#64 <<< n)) (w : Limb) : f w = f' w := by
  rw [hf.eq_xorTo w.isLt, hf'.eq_xorTo w.isLt]
  exact xorTo_congr fun n hn => by rw [agree n hn]

/-! ### The map a table of 64 constants defines -/

/-- Bit `63 - i` of `w` selects `row i`, as in R123. -/
def selectXor (row : Nat → Limb) (w : Limb) : Limb := xorTo 64 fun i => if w.getLsbD (63 - i) then row i else 0#64

theorem xorLinear_selectXor (row : Nat → Limb) : XorLinear (selectXor row) := by
  intro a b
  unfold selectXor
  rw [← xorTo_xor]
  refine xorTo_congr fun i _ => ?_
  rw [BitVec.getLsbD_xor]
  cases a.getLsbD (63 - i) <;> cases b.getLsbD (63 - i) <;> simp

theorem selectXor_oneBit (row : Nat → Limb) {n : Nat} (h : n < 64) : selectXor row (1#64 <<< n) = row (63 - n) := by
  have selected : (1#64 <<< n).getLsbD (63 - (63 - n)) = true := by simp; omega
  unfold selectXor
  rw [xorTo_eq_single (k := 63 - n) (by omega), if_pos selected]
  intro i hi other
  have unselected : (1#64 <<< n).getLsbD (63 - i) = false := by simp; omega
  simp [unselected]

theorem linear_eq_selectXor : linear = selectXor A := rfl

theorem xorLinear_linear : XorLinear linear := linear_eq_selectXor ▸ xorLinear_selectXor A

theorem linear_oneBit {n : Nat} (h : n < 64) : linear (1#64 <<< n) = A (63 - n) := by
  rw [linear_eq_selectXor, selectXor_oneBit A h]

/-- Settles O37: the terms of `l` add up bit by bit, and one bit leaves one term. -/
theorem linearMapIsLinear : Obligations.LinearMapIsLinear := by
  unfold Obligations.LinearMapIsLinear
  refine ⟨xorLinear_linear, xorLinear_linear.map_zero, fun i hi => ?_⟩
  rw [linear_oneBit (by omega), show 63 - (63 - i) = i by omega]

end Sys2Proof.Machine
end

section
/-! SUPPORT. The fused lookup and the composed steps S, P and L (spec/40_lps.md R121 to R127). -/

namespace Sys2Proof.Machine

theorem tau_lt {i : Nat} (h : i < 64) : tau i < 64 := by unfold tau; omega

theorem tau_tau {i : Nat} (h : i < 64) : tau (tau i) = i := by unfold tau; omega

/-- In words, P exchanges the word and the place in it (R121). -/
theorem byteAt_stepP_word (x : Block) {k m : Nat} (hk : k < 8) (hm : m < 8) :
    byteAt (stepP x) (8 * k + m) = byteAt x (8 * m + k) := by
  have transposed : tau (8 * k + m) = 8 * m + k := by unfold tau; omega
  rw [byteAt_stepP x (by omega), transposed]

/-- Settles O36: `TAU` exchanges the two base-8 digits of an index. -/
theorem tauTransposes : Obligations.TauTransposes := by
  unfold Obligations.TauTransposes
  exact ⟨fun i hi => ⟨rfl, tau_lt hi, tau_tau hi⟩, fun x i hi => byteAt_stepP x hi,
    fun x k m hk hm => byteAt_stepP_word x hk hm⟩

/-- A table entry is `l` of the substituted byte in its lane (R125). -/
theorem lpsTable_eq_linear {j : Nat} (b : Byte) (hj : j < 8) : lpsTable j b = linear ((pi b).setWidth 64 <<< (8 * j)) := by
  have lane : XorLinear fun w => linear (w <<< (8 * j)) := xorLinear_linear.comp (xorLinear_shiftLeft (8 * j))
  have byte : ((pi b).setWidth 64).toNat < 2 ^ 8 := by
    rw [BitVec.toNat_setWidth_of_le (by decide)]
    exact (pi b).isLt
  rw [lane.eq_xorTo byte]
  refine xorTo_congr fun t ht => ?_
  have bit : ((pi b).setWidth 64).getLsbD t = (pi b).getLsbD t := by simp; omega
  have constant : linear (1#64 <<< t <<< (8 * j)) = A (63 - 8 * j - t) := by
    rw [← BitVec.shiftLeft_add, linear_oneBit (by omega), Nat.add_comm, Nat.sub_sub]
  rw [bit, constant]

/-- Settles O38: the bits of a byte select the constants of its lane. -/
theorem tableEntryIsLinearImage : Obligations.TableEntryIsLinearImage := by
  unfold Obligations.TableEntryIsLinearImage
  exact fun j b hj => lpsTable_eq_linear b hj

/-! ### The state and the tweak -/

theorem xorBlock_self (x : Block) : xorBlock x x = zero64 :=
  block_ext fun i _ => by rw [byteAt_xorBlock, byteAt_zero64, BitVec.xor_self]

theorem xorBlock_comm (x y : Block) : xorBlock x y = xorBlock y x :=
  block_ext fun i _ => by rw [byteAt_xorBlock, byteAt_xorBlock, BitVec.xor_comm]

theorem xorBlock_cancel_right (x t : Block) : xorBlock (xorBlock x t) t = x :=
  block_ext fun i _ => by rw [byteAt_xorBlock, byteAt_xorBlock, xor_cancel_right]

theorem lps_congr (tb : Tables) {x t y u : Block} (h : xorBlock x t = xorBlock y u) : lps tb x t = lps tb y u := by
  rw [lps_eq, lps_eq, h]

/-- Settles O39: LPS reads its arguments in their exclusive-or only, and that is symmetric and zero on equal arguments. -/
theorem lpsDependsOnXorOnly : Obligations.LpsDependsOnXorOnly := by
  unfold Obligations.LpsDependsOnXorOnly
  exact fun tb => ⟨fun x t y u h => lps_congr tb h, fun t => lps_congr tb (by rw [xorBlock_self, xorBlock_self]),
    fun x t => lps_congr tb (xorBlock_comm x t)⟩

/-! ### Fused and composed -/

/-- Above the bits of `a` a sum carries nothing. -/
theorem add_shiftLeft_eq_xor {a : Limb} {n : Nat} (y : Limb) (h : a.toNat < 2 ^ n) : a + y <<< n = a ^^^ y <<< n := by
  have apart (i : Nat) : a.getLsbD i = false ∨ (y <<< n).getLsbD i = false := by
    by_cases low : i < n
    · exact .inr (by simp [low])
    · exact .inl (Nat.testBit_lt_two_pow (h.trans_le (Nat.pow_le_pow_right (by decide) (not_lt.1 low))))
  have disjoint : a &&& y <<< n = 0#64 := by
    refine BitVec.eq_of_getLsbD_eq fun i _ => ?_
    rw [BitVec.getLsbD_and]
    obtain clear | clear := apart i <;> rw [clear] <;> simp
  rw [BitVec.add_eq_or_of_and_eq_zero a _ disjoint]
  refine BitVec.eq_of_getLsbD_eq fun i _ => ?_
  rw [BitVec.getLsbD_or, BitVec.getLsbD_xor]
  obtain clear | clear := apart i <;> rw [clear] <;> simp

/-- The bytes of a word do not overlap, so their sum is their exclusive-or. -/
theorem sumTo_bytes_eq_xorTo {count : Nat} (d : Nat → Byte) (h : count ≤ 8) :
    (sumTo count fun m => (d m).setWidth 64 <<< (8 * m)) = xorTo count fun m => (d m).setWidth 64 <<< (8 * m) := by
  induction count with
  | zero => rfl
  | succ k ih =>
    have below : (sumTo k fun m => (d m).setWidth 64 <<< (8 * m)).toNat < 2 ^ (8 * k) := by
      rw [toNat_sumTo_bytes d (by omega)]
      exact digitSum_lt 8 k d
    rw [sumTo_succ, xorTo_succ, add_shiftLeft_eq_xor _ below, ih (by omega)]

/-- Output word `k` of the fused lookup is `l` of word `k` of `P(S(x))`. -/
theorem lpsWord_standardTables (x : Block) {k : Nat} (hk : k < 8) :
    lpsWord standardTables x k = linear (limbAt (words (stepP (stepS x))) k) := by
  rw [limbAt_words _ hk, sumTo_bytes_eq_xorTo _ le_rfl, xorLinear_linear.map_xorTo]
  refine xorTo_congr fun m hm => ?_
  have byte : byteAt (stepP (stepS x)) (8 * k + m) = pi (byteAt x (k + 8 * m)) := by
    rw [byteAt_stepP_word _ hk hm, byteAt_stepS x (by omega), Nat.add_comm]
  rw [byte, standardTables_T, lpsTable_eq_linear _ hm]

theorem lps_eq_composed (s t : Block) : lps standardTables s t = stepL (stepP (stepS (xorBlock s t))) := by
  rw [lps_eq, stepL]
  refine congrArg bytes (limbs_ext fun k hk => ?_)
  rw [limbAt_map _ _ hk, ← lpsWord_standardTables _ hk]
  simp [limbAt_eq _ hk]

/-- Settles O40: word by word, the lookup adds up `l` of the eight bytes that S and P bring together. -/
theorem fusedLpsEqualsComposed : Obligations.FusedLpsEqualsComposed := by
  unfold Obligations.FusedLpsEqualsComposed
  exact lps_eq_composed

end Sys2Proof.Machine
end

section
/-! SUPPORT. The steps of LPS are bijections (spec/40_lps.md R120, R121, R129). -/

namespace Sys2Proof.Machine

/-! ### Substitution -/

/-- The place of a value in the table of R120. -/
def piInverse (c : Byte) : Byte := BitVec.ofNat 8 (piRows.flatten.idxOf c.toNat)

/-- No value stands in the table twice, so a value is found where it was taken from. -/
theorem piInverse_pi : ∀ b : Byte, piInverse (pi b) = b := by decide +kernel

theorem pi_bijective : Function.Bijective pi :=
  Finite.injective_iff_bijective.1 (Function.LeftInverse.injective piInverse_pi)

/-- Settles O35: the entries are distinct, and an injective map of the bytes is surjective. -/
theorem piIsPermutation : Obligations.PiIsPermutation := by
  unfold Obligations.PiIsPermutation
  exact ⟨pi_bijective.injective, pi_bijective.surjective, by decide, by decide⟩

/-- A bijection of the entries is one of the vectors. -/
theorem bijective_vectorMap {α : Type} {n : Nat} {f : α → α} (h : Function.Bijective f) :
    Function.Bijective (Vector.map f : Vector α n → Vector α n) := by
  obtain ⟨f', left, right⟩ := Function.bijective_iff_has_inverse.1 h
  refine Function.bijective_iff_has_inverse.2 ⟨Vector.map f', fun v => ?_, fun v => ?_⟩
  · rw [Vector.map_map, left.comp_eq_id, Vector.map_id]
  · rw [Vector.map_map, right.comp_eq_id, Vector.map_id]

theorem stepS_bijective : Function.Bijective stepS := bijective_vectorMap pi_bijective

/-! ### Permutation -/

theorem stepP_involutive : Function.Involutive stepP := fun x =>
  block_ext fun i hi => by rw [byteAt_stepP _ hi, byteAt_stepP _ (tau_lt hi), tau_tau hi]

/-! ### Linear diffusion -/

/-- The 64 words that `l` takes to the one-bit words, the highest bit first: the inverse over GF(2) of the table of R122, which
shows that its rank is 64. -/
def aInverseRows : List (List Nat) :=
  [[0x62AB88CD0972E917, 0x31DB44E88A39FA85, 0x96E3227445927DCC, 0x4BFF113AAC49B066],
   [0xABF1861D56AA5833, 0xDBF643802B552C97, 0xE37BAF409BA416C5, 0xFFB3D920C3520BEC],
   [0x37AC80EC39310F5C, 0x955640769296892E, 0xC42B203B494BCA17, 0x629B1093AAAB6585],
   [0x31C308C755DBBCCC, 0x96EF04EDA4E35E66, 0x4BF902F852FF2F33, 0xABF2017C29F19997],
   [0x7BA7F6D2966A717C, 0xB3DD7B694B35B63E, 0xD7E0B3BAAB945B1F, 0xE570D75DDB4AA381],
   [0xFC38E5A0E325DFCE, 0x7E1CFC50FF9CE167, 0x3F0E7E28F14EFEBD, 0x91073F14F6277FD0],
   [0x8F75C66271C4C510, 0xC9B46331B662EC08, 0xEA5ABF965B317604, 0x752DD14BA3963B02],
   [0xB498E6ABDF4B9301, 0x5A4C73DBE1ABC78E, 0x2D26B7E3FEDBED47, 0x9813D5FF7FE3F8AD],
   [0xA27784688A48D4EF, 0x51B5423445246AF9, 0xA6D4211AAC1235F2, 0x536A9E0D56099479],
   [0xA7354F882B8A4AB2, 0xDD94A9449B452559, 0xE04ADA22C3AC9CA2, 0x70256D11EF564E51],
   [0x38D6992F43439CAA, 0x1C6BC299AFAF4E55, 0x0EBB61C2D9D927A4, 0x07D3BE61E2E29D52],
   [0x8DE75FBE7171C029, 0xC8FDA15FB6B6609A, 0x64F0DEA15B5B304D, 0x32786FDEA3A318A8],
   [0x7388FC7DF56416B6, 0xB7447EB0F4320B5B, 0xD5223F587A198BA3, 0xE411912C3D82CBDF],
   [0x7286C6169041EBE1, 0x3943630B48AEFBFE, 0x92AFBF8B2457F37F, 0x49D9D1CB12A5F7B1],
   [0x321902AD3C69A5E9, 0x198201D81EBADCFA, 0x82418E6C0F5D6E7D, 0x41AE473689A037B0],
   [0xAE57AD1BCA509558, 0x57A5D8836528C42C, 0xA5DC6CCFBC146216, 0xDC6E36E95E0A310B]]

/-- The constant of the inverse map that bit `63 - i` selects. -/
def aInverse (i : Nat) : Limb := BitVec.ofNat 64 ((aInverseRows.getD (i / 4) []).getD (i % 4) 0)

theorem selectXor_aInverse_A : ∀ i, i < 64 → selectXor aInverse (A i) = 1#64 <<< (63 - i) := by decide +kernel

theorem selectXor_aInverse_linear : Function.LeftInverse (selectXor aInverse) linear := by
  refine XorLinear.ext ((xorLinear_selectXor aInverse).comp xorLinear_linear) (f' := id) (fun _ _ => rfl) fun n hn => ?_
  rw [linear_oneBit hn, selectXor_aInverse_A _ (by omega), show 63 - (63 - n) = n by omega, id]

theorem linear_bijective : Function.Bijective linear :=
  Finite.injective_iff_bijective.1 selectXor_aInverse_linear.injective

theorem bytes_bijective : Function.Bijective bytes :=
  Function.bijective_iff_has_inverse.2 ⟨words, words_bytes, bytes_words⟩

theorem words_bijective : Function.Bijective words :=
  Function.bijective_iff_has_inverse.2 ⟨bytes, bytes_words, words_bytes⟩

theorem stepL_bijective : Function.Bijective stepL :=
  bytes_bijective.comp ((bijective_vectorMap linear_bijective).comp words_bijective)

/-! ### LPS -/

theorem xorBlock_right_involutive (t : Block) : Function.Involutive (xorBlock · t) := fun x => xorBlock_cancel_right x t

theorem lps_bijective (t : Block) : Function.Bijective (lps standardTables · t) := by
  have composed : (lps standardTables · t) = stepL ∘ stepP ∘ stepS ∘ (xorBlock · t) := funext fun s => lps_eq_composed s t
  rw [composed]
  exact stepL_bijective.comp (stepP_involutive.bijective.comp (stepS_bijective.comp (xorBlock_right_involutive t).bijective))

/-- Settles O41: the composed form is a chain of bijections. -/
theorem lpsIsBijection : Obligations.LpsIsBijection := by
  unfold Obligations.LpsIsBijection
  exact fun t => ⟨fun _ _ same => (lps_bijective t).injective same, (lps_bijective t).surjective⟩

end Sys2Proof.Machine
end

section
/-! SUPPORT. The compression function read as a cipher (spec/41_compression_g.md R160, R161). -/

namespace Sys2Proof.Machine

/-- After `r` rounds the registers of `g` hold `K_(r+1)` and `X_r`. -/
theorem cipherRounds_cipherSeed (tb : Tables) (h tweak block : Block) (r : Nat) :
    cipherRounds tb r (cipherSeed tb h tweak block) =
      { key := roundKey tb h tweak r, data := roundData tb h tweak block r } := by
  induction r with
  | zero => rfl
  | succ r ih => rw [cipherRounds, ih]; rfl

theorem xorBlock_assoc (x y z : Block) : xorBlock (xorBlock x y) z = xorBlock x (xorBlock y z) :=
  block_ext fun i _ => by simp only [byteAt_xorBlock, BitVec.xor_assoc]

/-- The feed-forward of R160 in the order of R161: the cipher's output, then `block`, then `h`. -/
theorem feedForward_eq (h : Block) (c : Cipher) (block : Block) :
    feedForward h c block = xorBlock (xorBlock (xorBlock c.data c.key) block) h := by
  rw [feedForward, xorBlock_assoc h, xorBlock_assoc h, xorBlock_comm h]

theorem g_eq_roundData_roundKey (tb : Tables) (h tweak block : Block) :
    g tb h tweak block =
      xorBlock (xorBlock (xorBlock (roundData tb h tweak block 12) (roundKey tb h tweak 12)) block) h := by
  rw [g, cipherRounds_cipherSeed, feedForward_eq]

/-- Settles O42: the rounds compute the recursions, and the feed-forward is an exclusive-or in any order. -/
theorem compressionIsCipherWithFeedForward : Obligations.CompressionIsCipherWithFeedForward := by
  unfold Obligations.CompressionIsCipherWithFeedForward
  exact fun tb h tweak block => ⟨rfl, rfl, fun _ _ => ⟨rfl, rfl⟩, g_eq_roundData_roundKey tb h tweak block⟩

end Sys2Proof.Machine
end

section
/-! SUPPORT. The operations of one `g` call, move by move (spec/41_compression_g.md R162). -/

namespace Sys2Proof.Machine

variable (tb : Tables)

/-! ### The moves of a call -/

theorem advance_of_seed {w : Work} {c : GCall} (seed : w.stage = .seed c) :
    (w.advance tb).stage = .round c ∧ (w.advance tb).round.val = 0 := by
  simp [Work.advance, seed]

/-- A round that is not the last leads to the next. -/
theorem advance_of_round {w : Work} {c : GCall} (stage : w.stage = .round c) (more : w.round.val < 11) :
    (w.advance tb).stage = .round c ∧ (w.advance tb).round.val = w.round.val + 1 := by
  have notLast : w.round ≠ 11 := fun last => by simp [last] at more
  have round : (w.round + 1).val = w.round.val + 1 := Fin.val_add_one_of_lt (Fin.lt_def.2 more)
  simp [Work.advance, stage, notLast, round]

theorem advance_of_lastRound {w : Work} {c : GCall} (stage : w.stage = .round c) (last : w.round.val = 11) :
    (w.advance tb).stage = .feed c := by
  simp [Work.advance, stage, show w.round = 11 from Fin.ext last]

theorem advance_of_feed {w : Work} {c : GCall} (feed : w.stage = .feed c) : (w.advance tb).stage = afterFeed c := by
  simp [Work.advance, feed]

/-- Round `r` of a call is move `r` after its seed. -/
theorem advanceBy_round {w : Work} {c : GCall} (seed : w.stage = .seed c) {r : Nat} (hr : r < 12) :
    (w.advanceBy tb (1 + r)).stage = .round c ∧ (w.advanceBy tb (1 + r)).round.val = r := by
  induction r with
  | zero => exact advance_of_seed tb seed
  | succ r ih =>
    obtain ⟨stage, round⟩ := ih (by omega)
    obtain ⟨stage', round'⟩ := advance_of_round tb stage (by omega)
    exact ⟨stage', by rw [← Nat.add_assoc, advanceBy_succ, round', round]⟩

theorem advanceBy_feed {w : Work} {c : GCall} (seed : w.stage = .seed c) : (w.advanceBy tb 13).stage = .feed c := by
  obtain ⟨stage, last⟩ := advanceBy_round tb seed (r := 11) (by decide)
  exact advance_of_lastRound tb stage last

/-! ### Their operations -/

theorem opsOver_one (kind : Stage → Nat) (w : Work) : w.opsOver tb kind 1 = kind w.stage := rfl

/-- The operations of the seed and of the first `r` rounds. -/
theorem opsOver_rounds (kind : Stage → Nat) {w : Work} {c : GCall} (seed : w.stage = .seed c) {r : Nat} (hr : r ≤ 12) :
    w.opsOver tb kind (1 + r) = kind (.seed c) + r * kind (.round c) := by
  induction r with
  | zero => rw [opsOver_one, seed]; simp
  | succ r ih =>
    obtain ⟨stage, -⟩ := advanceBy_round tb seed (r := r) (by omega)
    rw [← Nat.add_assoc, opsOver_add, ih (by omega), opsOver_one, stage, Nat.succ_mul, Nat.add_assoc]

/-- The operations of a whole call, of any kind. -/
theorem opsOver_gCall (kind : Stage → Nat) {w : Work} {c : GCall} (seed : w.stage = .seed c) :
    w.opsOver tb kind 14 = kind (.seed c) + 12 * kind (.round c) + kind (.feed c) := by
  rw [opsOver_add tb kind w (1 + 12) 1, opsOver_rounds tb kind seed le_rfl, opsOver_one, advanceBy_feed tb seed]

/-- Settles O44: each move's stage is known, and the stages' tallies add up to 1 + 12 * 2 + 0. -/
theorem eachCompressionMakes25Lps : Obligations.EachCompressionMakes25Lps := by
  unfold Obligations.EachCompressionMakes25Lps
  intro tb w c seed
  refine ⟨?_, fun r hr => ?_, advanceBy_feed tb seed, advance_of_feed tb (advanceBy_feed tb seed), opsOver_gCall tb _ seed⟩
  · rw [opsOver_one, seed, Stage.lpsOps]
  · obtain ⟨stage, round⟩ := advanceBy_round tb seed hr
    exact ⟨stage, round, by rw [opsOver_one, stage, Stage.lpsOps]⟩

end Sys2Proof.Machine
end

section
/-! SUPPORT. The adder (spec/42_adder.md R180 to R184): `adc` is exact, so a carry stays one bit, and the two updates are additions. -/

namespace Sys2Proof.Machine

/-- Settles O32: 128 bits hold the sum of any three limbs. -/
theorem adcIsExact : Obligations.AdcIsExact := adc_exact

/-- A carry of at most 1 is handed on as one of at most 1: the exact sum is at most `2 * (2^64 - 1) + 1`. -/
theorem adc_carry_le_one (limb addend : Limb) {carry : Limb} (h : carry.toNat ≤ 1) :
    (adc limb addend carry).carry.toNat ≤ 1 := by
  have sum := adc_exact limb addend carry
  have l := limb.isLt
  have a := addend.isLt
  omega

theorem carryInto_le_one (x y : Limbs) (k : Nat) : (carryInto x y k).toNat ≤ 1 := by
  induction k with
  | zero => exact Nat.zero_le 1
  | succ i ih => exact adc_carry_le_one (limbAt x i) (limbAt y i) ih

/-- Settles O33, by induction on the position. -/
theorem rippleCarryIsOneBit : Obligations.RippleCarryIsOneBit := by
  unfold Obligations.RippleCarryIsOneBit
  intro x y k _
  obtain zero | one := Nat.le_one_iff_eq_zero_or_eq_one.1 (carryInto_le_one x y k)
  · exact .inl (BitVec.eq_of_toNat_eq zero)
  · exact .inr (BitVec.eq_of_toNat_eq one)

/-- Settles O34: each update is a ripple, and a ripple with its last carry discarded is the sum modulo `2^512`. -/
theorem updatesAddModulo : Obligations.UpdatesAddModulo :=
  ⟨fun n _ le64 => intOf_updateN n le64, intOf_updateSigma⟩

end Sys2Proof.Machine
end

section
/-! SUPPORT. Each command, accepted and completed with exactly its effect (spec/43_controller.md R202 to R208), and what FINALIZE
reads of `DIN` (R206). -/

namespace Sys2Proof.Machine

/-! ### Acceptance and completion -/

/-- A command's commit neither reads nor writes `BUSY`, the working state and the list of turns. -/
theorem commit_withControl (tb : Tables) (i : Instr) (s : State) (busy : Bool) (work : Option Work) (turns : List Turn) :
    ({ s with busy := busy, work := work, turns := turns } : State).commit tb i =
      { s.commit tb i with busy := busy, work := work, turns := turns } := by
  cases i with
  | init size => rfl
  | update => rfl
  | finalize pos => simp only [State.commit, commitFinalize, State.compress, State.fold, State.emit]

/-- A command given and completed commits its effect on the state it was given in. -/
theorem commandThenWait_eq_commit (tb : Tables) {i : Instr} {s : State} (idle : s.busy = false) (legal : acceptable i s) :
    commandThenWait tb i s = { s.commit tb i with busy := false, work := none } := by
  rw [commandThenWait_of_acceptable tb idle legal, State.accept, commit_withControl]
  simp

/-- The completion turn right after a command's acceptance commits the command's effect on the state the command was given in. -/
theorem stepWith_complete_of_accept (tb : Tables) (i : Instr) {s : State} {ts : List Turn} (idle : s.busy = false)
    (low : s.rst = false) (turns : s.turns = .complete :: ts) :
    stepWith tb (s.accept i) = .next { s.commit tb i with work := none, turns := ts } := by
  have chosen : (s.accept i).nextTurn = .complete := nextTurn_of_turns turns
  have taken : (s.accept i).takeTurn = { s with busy := true, work := some (Work.start i s), turns := ts } := by
    simp [State.takeTurn, State.accept, turns]
  rw [stepWith_of_low tb (show (s.accept i).rst = false from low), chosen, runTurn, taken, complete_of_running tb rfl,
    start_cmd, commit_withControl]
  simp [idle]

/-- Settles O9: INIT of either size is acceptable, and its commit is R202's effect. -/
theorem initCompletes : Obligations.InitCompletes := by
  unfold Obligations.InitCompletes
  intro tables size s ts valid idle low turns
  have legal : acceptable (.init size) s := valid
  exact ⟨_, exec_of_acceptable idle legal, rfl, rfl, stepWith_complete_of_accept tables _ idle low turns⟩

/-- Settles O10: UPDATE is acceptable while streaming, and its commit is R204's effect. -/
theorem updateCompletes : Obligations.UpdateCompletes := by
  unfold Obligations.UpdateCompletes
  intro tables s ts streaming idle low turns
  have legal : acceptable .update s := streaming
  exact ⟨_, exec_of_acceptable idle legal, rfl, rfl, stepWith_complete_of_accept tables _ idle low turns⟩

/-- Settles O11: FINALIZE is acceptable while streaming, and its commit is R205's six steps. -/
theorem finalizeCompletes : Obligations.FinalizeCompletes := by
  unfold Obligations.FinalizeCompletes
  intro tables p s ts hp streaming idle low turns
  have legal : acceptable (.finalize p) s := ⟨hp, streaming⟩
  exact ⟨_, _, _, _, _, _, rfl, rfl, rfl, rfl, rfl, exec_of_acceptable idle legal, rfl, rfl,
    stepWith_complete_of_accept tables _ idle low turns⟩

/-! ### The operands of FINALIZE -/

/-- Settles O14: the padded block byte by byte. -/
theorem paddedBlock : Obligations.PaddedBlock := by
  unfold Obligations.PaddedBlock
  intro s p hp
  refine ⟨fun i below => ?_, ?_, fun i above hi => ?_, fun tables => commitFinalize_din tables p s⟩
  · rw [byteAt_pad _ _ (by omega), if_pos below]
  · rw [byteAt_pad _ _ hp, if_neg (by omega), if_pos rfl]
  · rw [byteAt_pad _ _ hi, if_neg (by omega), if_neg (by omega)]

/-- Settles O16: the digest byte by byte. -/
theorem digestIsRightSide : Obligations.DigestIsRightSide := by
  unfold Obligations.DigestIsRightSide
  intro h
  refine ⟨block_ext fun k hk => ?_, fun k hk => ?_, fun k past hk => ?_⟩
  · rw [byteAt_digest _ _ hk, if_pos hk, Nat.sub_self, Nat.zero_add]
  · rw [byteAt_digest _ _ (by omega), if_pos hk]
  · rw [byteAt_digest _ _ hk, if_neg (by omega)]

/-- Padding reads the bytes below `POS` only. -/
theorem pad_congr {d e : Block} {p : Nat} (same : ∀ i, i < p → byteAt d i = byteAt e i) : pad d p = pad e p := by
  refine block_ext fun i hi => ?_
  rw [byteAt_pad d p hi, byteAt_pad e p hi]
  split
  next below => rw [same i below]
  next => rfl

/-- FINALIZE reads `DIN` through the padded block only. -/
theorem commitFinalize_withDin (tb : Tables) {p : Nat} {s : State} {d : Block} (padded : pad d p = pad s.din p) :
    commitFinalize tb p { s with din := d } = { commitFinalize tb p s with din := d } := by
  simp only [commitFinalize, State.compress, State.fold, State.emit, padded]

/-- Settles O15: the two runs commit the same padded block. -/
theorem finalizeIgnoresUnusedBytes : Obligations.FinalizeIgnoresUnusedBytes := by
  unfold Obligations.FinalizeIgnoresUnusedBytes
  intro tables p s d hp streaming idle same
  have legal : acceptable (.finalize p) s := ⟨hp, streaming⟩
  rw [commandThenWait_eq_commit tables idle legal, commandThenWait_eq_commit tables (s := { s with din := d }) idle legal,
    State.commit, State.commit, commitFinalize_withDin tables (pad_congr same)]
  simp

end Sys2Proof.Machine
end

section
/-! SUPPORT. The checks of a `CMD` write in their order (spec/43_controller.md R201, spec/60_exceptions.md R255), and the `STATUS`
write that clears an error (R209). -/

namespace Sys2Proof.Machine

/-- Where no check of a `CMD` write applies, no command runs and the word is that of an acceptable command. -/
theorem acceptable_of_firstError_none {v : Word} {s : State} (h : firstError v s = none) :
    s.busy = false ∧ ∃ i, decode v = .command i ∧ acceptable i s := by
  cases decoded : decode v with
  | illegal why => simp [firstError, commandChecks, decoded] at h
  | command i =>
    cases i with
    | init size =>
      obtain ⟨idle, valid⟩ : s.busy = false ∧ (size ≠ 32 → size = 64) := by
        simpa [firstError, commandChecks, decoded] using h
      exact ⟨idle, _, rfl, or_iff_not_imp_left.2 valid⟩
    | update =>
      obtain ⟨idle, streaming⟩ : s.busy = false ∧ s.life = .streaming := by
        simpa [firstError, commandChecks, decoded] using h
      exact ⟨idle, _, rfl, streaming⟩
    | finalize pos =>
      obtain ⟨idle, streaming⟩ : s.busy = false ∧ s.life = .streaming := by
        simpa [firstError, commandChecks, decoded] using h
      exact ⟨idle, _, rfl, decode_finalize_lt decoded, streaming⟩

/-- Settles O18: the first check that applies is raised, and where none applies the command is acceptable. -/
theorem commandWriteChecksInOrder : Obligations.CommandWriteChecksInOrder := by
  unfold Obligations.CommandWriteChecksInOrder
  intro v s
  cases first : firstError v s with
  | some e => exact ⟨issueCommand_of_firstError first, fun passed => nomatch passed⟩
  | none =>
    obtain ⟨idle, i, decoded, legal⟩ := acceptable_of_firstError_none first
    refine ⟨?_, fun _ => ⟨i, decoded, legal⟩⟩
    rw [issueCommand_of_decode s decoded, exec_of_acceptable idle legal, decoded]
    rfl

/-- Settles O24: word 1 is `STATUS`. -/
theorem statusWriteClearsError : Obligations.StatusWriteClearsError :=
  fun s v => portWrite_status v s rfl

end Sys2Proof.Machine
end

section
/-! SUPPORT. The four errors (spec/60_exceptions.md R250 to R256): what raising one changes, what each command and each write of the
port reports, and the stricter reading of R265. -/

namespace Sys2Proof.Machine

/-! ### Raising an error -/

/-- R256, as one equation between whole states. -/
theorem raise_eq (e : Error) (s : State) :
    s.raise e = if s.err then s else { s with err := true, errcode := some e } := rfl

/-- Settles O19: an error already recorded leaves the state alone, and otherwise `ERR` and `ERRCODE` are all that is written. -/
theorem raiseRecordsFirstError : Obligations.RaiseRecordsFirstError := by
  unfold Obligations.RaiseRecordsFirstError
  intro e s
  cases recorded : s.err with
  | true => exact ⟨s, raise_of_err e recorded, rfl, recorded, nofun, fun _ => rfl⟩
  | false => exact ⟨_, raise_of_clear e recorded, rfl, rfl, fun _ => rfl, nofun⟩

/-! ### Rejected commands -/

/-- Settles O20: neither size check passes. -/
theorem initRejectsOtherSizes : Obligations.InitRejectsOtherSizes := by
  unfold Obligations.InitRejectsOtherSizes
  intro size s not32 not64 idle
  exact exec_init_rejected idle (not_or.2 ⟨not32, not64⟩)

/-- Settles O21: both lifecycle states are other than STREAMING. -/
theorem commandsOutsideSessionRejected : Obligations.CommandsOutsideSessionRejected := by
  unfold Obligations.CommandsOutsideSessionRejected
  intro p s _ closed idle
  have outside : s.life ≠ .streaming := by obtain life | life := closed <;> simp [life]
  exact ⟨exec_update_rejected idle outside, exec_finalize_rejected p idle outside⟩

/-- A word that no command's row of R92 admits decodes as ILLEGAL. -/
theorem decode_illegal_of_masks {v : Word}
    (init : v &&& 0xF#32 = 0x1#32 → v &&& ~~~0x0000FF0F#32 ≠ 0#32)
    (update : v &&& 0xF#32 = 0x2#32 → v &&& ~~~0x0000000F#32 ≠ 0#32)
    (finalize : v &&& 0xF#32 = 0x3#32 → v &&& ~~~0x003F000F#32 ≠ 0#32) : ∃ why, decode v = .illegal why := by
  cases decoded : decode v with
  | illegal why => exact ⟨why, rfl⟩
  | command i =>
    obtain ⟨initRow, updateRow, finalizeRow⟩ := legalWordsByMask v
    cases i with
    | init size =>
      obtain ⟨op, allowed⟩ := initRow.1 ⟨size, decoded⟩
      exact absurd allowed (init op)
    | update =>
      obtain ⟨op, allowed⟩ := updateRow.1 decoded
      exact absurd allowed (update op)
    | finalize pos =>
      obtain ⟨op, allowed⟩ := finalizeRow.1 ⟨pos, decoded⟩
      exact absurd allowed (finalize op)

/-- Settles O22: in each of the four cases the word meets no command's row, for the rows differ in `OP`. -/
theorem illegalWordsRejected : Obligations.IllegalWordsRejected := by
  unfold Obligations.IllegalWordsRejected
  intro v s idle bad
  have illegal : ∃ why, decode v = .illegal why := by
    obtain ⟨not1, not2, not3⟩ | ⟨op, outside⟩ | ⟨op, outside⟩ | ⟨op, outside⟩ := bad
    · exact decode_illegal_of_masks (absurd · not1) (absurd · not2) (absurd · not3)
    · exact decode_illegal_of_masks (fun _ => outside) (by simp [op]) (by simp [op])
    · exact decode_illegal_of_masks (by simp [op]) (fun _ => outside) (by simp [op])
    · exact decode_illegal_of_masks (by simp [op]) (by simp [op]) (fun _ => outside)
  obtain ⟨why, decoded⟩ := illegal
  rw [portWrite_cmd v s rfl, issueCommand_illegal idle decoded, raise_eq]

/-! ### BUSY_VIOLATION -/

/-- The three checks after the one of `BUSY` report other errors. -/
theorem firstError_ne_busyViolation (v : Word) {s : State} (idle : s.busy = false) : firstError v s ≠ some .busyViolation := by
  cases decoded : decode v with
  | illegal why => simp [firstError, commandChecks, idle, decoded]
  | command i => cases i <;> simp [firstError, commandChecks, idle, decoded]

/-- BUSY_VIOLATION is not recorded by raising another error. -/
theorem raise_errcode_ne_busyViolation {e : Error} {s : State} (other : e ≠ .busyViolation)
    (unrecorded : s.errcode ≠ some .busyViolation) : (s.raise e).errcode ≠ some .busyViolation := by
  cases recorded : s.err with
  | true => rwa [raise_of_err e recorded]
  | false => simpa [raise_of_clear e recorded] using other

/-- While no command runs, no `CMD` write records BUSY_VIOLATION: it raises another error, or is accepted. -/
theorem issueCommand_keeps_unviolated (v : Word) {s : State} (idle : s.busy = false)
    (unrecorded : s.errcode ≠ some .busyViolation) :
    ∃ t, issueCommand v s = .next t ∧ t.errcode ≠ some .busyViolation := by
  cases first : firstError v s with
  | some e =>
    have other : e ≠ .busyViolation := fun same => firstError_ne_busyViolation v idle (same ▸ first)
    exact ⟨_, issueCommand_of_firstError first, raise_errcode_ne_busyViolation other unrecorded⟩
  | none =>
    obtain ⟨-, i, decoded, legal⟩ := acceptable_of_firstError_none first
    exact ⟨s.accept i, by rw [issueCommand_of_decode s decoded, exec_of_acceptable idle legal], unrecorded⟩

/-- While no command runs, no write of the port records BUSY_VIOLATION. -/
theorem portWrite_keeps_unviolated (widx : WordIndex) (v : Word) {s : State} (idle : s.busy = false)
    (unrecorded : s.errcode ≠ some .busyViolation) :
    ∃ t, portWrite widx v s = .next t ∧ t.errcode ≠ some .busyViolation := by
  by_cases cmd : widx.toNat = 0
  · rw [portWrite_cmd v s cmd]
    exact issueCommand_keeps_unviolated v idle unrecorded
  · by_cases status : widx.toNat = 1
    · rw [portWrite_status v s status]
      refine ⟨_, rfl, ?_⟩
      unfold State.writeStatus
      split
      next => exact nofun
      next => exact unrecorded
    · by_cases window : 16 ≤ widx.toNat ∧ widx.toNat < 32
      · exact ⟨_, portWrite_din v window.1 window.2 idle, unrecorded⟩
      · exact ⟨s, portWrite_ignored v s (by omega), unrecorded⟩

/-- Settles O23: while a command runs, `CMD` and `DIN` are the two words that report it; while none runs, no write does. -/
theorem busyWritesRejected : Obligations.BusyWritesRejected := by
  unfold Obligations.BusyWritesRejected
  intro s widx v
  refine ⟨fun busy word => ?_, portWrite_status v s, fun notCmd notStatus notDin => portWrite_ignored v s (by omega),
    ⟨read_err widx s, read_errcode widx s⟩, portWrite_keeps_unviolated widx v⟩
  rw [portWrite_of_busy widx v busy, if_pos word, raise_eq]

/-! ### Errors as next states, and as faults -/

/-- Settles O8: every case of a step is a next state. -/
theorem everyStepHasNext : Obligations.EveryStepHasNext := by
  unfold Obligations.EveryStepHasNext
  intro s
  obtain ⟨t, next, -⟩ := stepWith_stepped standardTables s
  exact ⟨t, next⟩

theorem strictStep_of_errcode_none {s t : State} (next : step s = .next t) (clear : t.errcode = none) :
    strictStep s = .next t := by
  simp [strictStep, next, clear]

theorem strictStep_of_errcode_some {s t : State} {e : Error} (next : step s = .next t) (recorded : t.errcode = some e) :
    strictStep s = .fault e.asFault := by
  simp [strictStep, next, recorded]

/-- Settles O56: the step keeps the invariant, so after it `ERRCODE` names an error exactly while `ERR` = 1. -/
theorem strictStepStopsOnError : Obligations.StrictStepStopsOnError := by
  unfold Obligations.StrictStepStopsOnError
  intro s t inv next
  have agrees : t.err = t.errcode.isSome := ((stepped_of_step next).inv inv).error
  cases code : t.errcode with
  | none =>
    have clear : t.err = false := by rw [agrees, code]; rfl
    exact ⟨fun _ => strictStep_of_errcode_none next code, fun err => by simp [clear] at err⟩
  | some e =>
    have err : t.err = true := by rw [agrees, code]; rfl
    exact ⟨fun clear => by simp [err] at clear, fun _ => ⟨e, rfl, strictStep_of_errcode_some next code⟩⟩

end Sys2Proof.Machine
end

section
/-! SUPPORT. The operations of a whole command, of any kind: the sums over its `g` calls and its two accumulator updates
(spec/43_controller.md R202, R204, R205, spec/70_reset_and_hazards.md R287). -/

namespace Sys2Proof.Machine

/-- The operations of one whole `g` call: its seed, its twelve rounds and its feed-forward (`opsOver_gCall`). -/
def Stage.callOps (kind : Stage → Nat) (c : GCall) : Nat :=
  kind (.seed c) + 12 * kind (.round c) + kind (.feed c)

/-- The operations of compressing a block: its `g` call and both accumulators (`opsOver_compress`). -/
def Stage.compressOps (kind : Stage → Nat) : Nat := callOps kind .block + (kind .addN + kind .addSigma)

/-- The operations of FINALIZE's two folds (`opsOver_folds`). -/
def Stage.foldOps (kind : Stage → Nat) : Nat := callOps kind .foldN + callOps kind .foldSigma

variable (tb : Tables) (kind : Stage → Nat)

theorem opsOver_add_two {w : Work} (addN : w.stage = .addN) :
    w.opsOver tb kind 2 = kind .addN + kind .addSigma := by
  have addSigma : (w.advance tb).stage = .addSigma := by simp [Work.advance, addN]
  simp [Work.opsOver, addN, addSigma]

theorem opsOver_compress {w : Work} (seed : w.stage = .seed .block) :
    w.opsOver tb kind 16 = Stage.compressOps kind := by
  have addN : (w.advanceBy tb 14).stage = .addN := by rw [advanceBy_gCall tb seed]; rfl
  rw [opsOver_add tb kind w 14 2, opsOver_gCall tb kind seed, opsOver_add_two tb kind addN]
  rfl

theorem opsOver_folds {w : Work} (seed : w.stage = .seed .foldN) :
    w.opsOver tb kind 28 = Stage.foldOps kind := by
  have foldSigma : (w.advanceBy tb 14).stage = .seed .foldSigma := by rw [advanceBy_gCall tb seed]; rfl
  rw [opsOver_add tb kind w 14 14, opsOver_gCall tb kind seed, opsOver_gCall tb kind foldSigma]
  rfl

section
variable (idle : kind .done = 0)
include idle

theorem opsOver_of_done {w : Work} (done : w.stage = .done) (k : Nat) : w.opsOver tb kind k = 0 := by
  induction k with
  | zero => rfl
  | succ k ih => rw [Work.opsOver, advance_of_done tb done, ih, done, idle]

/-- Once done, a command makes no more operations, so any later count of moves tallies the same. -/
theorem opsOver_of_done_le {w : Work} {a k : Nat} (done : (w.advanceBy tb a).stage = .done) (le : a ≤ k) :
    w.opsOver tb kind k = w.opsOver tb kind a := by
  obtain ⟨b, rfl⟩ := Nat.exists_eq_add_of_le le
  rw [opsOver_add, opsOver_of_done tb kind idle done, Nat.add_zero]

theorem opsOver_start_init (size : Nat) (s : State) (k : Nat) :
    (Work.start (.init size) s).opsOver tb kind k = 0 :=
  opsOver_of_done tb kind idle rfl k

theorem opsOver_start_update (s : State) {k : Nat} (le : 16 ≤ k) :
    (Work.start .update s).opsOver tb kind k = Stage.compressOps kind := by
  have seed : (Work.start .update s).stage = .seed .block := rfl
  obtain ⟨done, -⟩ := advanceBy_compress tb seed
  rw [opsOver_of_done_le tb kind idle done le, opsOver_compress tb kind seed]

theorem opsOver_start_finalize (p : Nat) (s : State) {k : Nat} (le : 44 ≤ k) :
    (Work.start (.finalize p) s).opsOver tb kind k = Stage.compressOps kind + Stage.foldOps kind := by
  have seed : (Work.start (.finalize p) s).stage = .seed .block := rfl
  obtain ⟨folds, -⟩ := advanceBy_compress tb seed
  obtain ⟨done, -⟩ := advanceBy_folds tb folds
  rw [← advanceBy_add] at done
  rw [opsOver_of_done_le tb kind idle done le, opsOver_add, opsOver_compress tb kind seed, opsOver_folds tb kind folds]

end

/-- Settles O45: one block compression is 1 `g` call, 25 LPS and 16 `adc`, and the two folds add 2 `g` calls and 50 LPS. -/
theorem commandOperationCounts : Obligations.CommandOperationCounts := by
  unfold Obligations.CommandOperationCounts
  intro tb s size p k enough
  have init (kind : Stage → Nat) (idle : kind .done = 0) := opsOver_start_init tb kind idle size s k
  have update (kind : Stage → Nat) (idle : kind .done = 0) :=
    opsOver_start_update tb kind idle s (le_trans (by decide) enough)
  have finalize (kind : Stage → Nat) (idle : kind .done = 0) := opsOver_start_finalize tb kind idle p s enough
  exact ⟨⟨init _ rfl, init _ rfl, init _ rfl⟩, ⟨update _ rfl, update _ rfl, update _ rfl⟩,
    finalize _ rfl, finalize _ rfl, finalize _ rfl⟩

end Sys2Proof.Machine
end
